-- ==== Sys2Proof/Word.lean ====
section
/-! DEFINITION. The word types: a byte of a frame, a reply or the image, and a van tag. Powers, energies, times and counts are
plain `Nat`, since the spec adds and compares them exactly (00_scope.md, "Units" and "Arithmetic"). -/

namespace Sys2Proof

/-- One byte of a depot-line frame, of a plug-link exchange or of the commissioning image. -/
abbrev Byte := BitVec 8

/-- A van tag: the van's six-byte identity, as the number its bytes make least significant byte first (00_scope.md, "Bytes and bits"). -/
abbrev VanTag := BitVec 48

end Sys2Proof
end

