-- ==== Sys2Proof/Syntax.lean ====
section
/-! DEFINITION. The commands: one constructor per row of spec/opcode_table.json, with the values the outside world supplies. -/

namespace Sys2Proof

/-- Why a header byte failed (R9): its stop bit was a framing fault, or it came whole with a sender id of 0 or 63. -/
inductive HeaderFailure where
  | framing
  | badSender (header : Byte)
  deriving DecidableEq, Repr

/-- A reply of the van as PL reads it (R115, R116): the level sampled in each read slot, high true, in order. They are the slots of the status
byte, then those of the data bytes and the check byte where the status is VALID and the command has reply data, and the stop slot last. -/
structure LinkReply where
  slots : List Bool
  deriving DecidableEq, Repr

/-- The commands of the block, one per row of spec/opcode_table.json. -/
inductive Instr where
  /-- POWER_UP; `senseClosed` is what the weld check of R140 reads. -/
  | powerUp (senseClosed : Bool)
  /-- BROWN_OUT; `senseClosed` is what the weld check of R140 reads. -/
  | brownOut (senseClosed : Bool)
  /-- IMAGE_READ_COMPLETE; the serial data bits sampled over the 96 bytes, in the order sampled (R147), and the first sample of the plug
  contact, which is used where the image is accepted (R110). -/
  | imageReadComplete (bits : List Bool) (contactClosed : Bool)
  /-- FRAME_GAP_COMPLETE. -/
  | frameGapComplete
  /-- JOIN_FOREIGN_START. -/
  | joinForeignStart
  /-- ARBITRATION_LOSS. -/
  | arbitrationLoss
  /-- TRANSMIT_MISMATCH. -/
  | transmitMismatch
  /-- FRAME_SENT_WHOLE. -/
  | frameSentWhole
  /-- DIAG_SENT_WHOLE. -/
  | diagSentWhole
  /-- LINE_CLEAR. -/
  | lineClear
  /-- LINE_STUCK. -/
  | lineStuck
  /-- LINE_STUCK_RELEASE. -/
  | lineStuckRelease
  /-- OPENING_FAILURE. -/
  | openingFailure (failure : HeaderFailure)
  /-- MISSING_STOP_BIT. -/
  | missingStopBit
  /-- TRUNCATION. -/
  | truncation
  /-- LENGTH_FAILURE; the length byte. -/
  | lengthFailure (length : Byte)
  /-- CHECK_FAILURE; the check byte. -/
  | checkFailure (check : Byte)
  /-- UNEXPECTED_FRAME; the check byte. -/
  | unexpectedFrame (check : Byte)
  /-- CLAIM_RECEIVED; the check byte. -/
  | claimReceived (check : Byte)
  /-- SITE_RECEIVED; the check byte. -/
  | siteReceived (check : Byte)
  /-- PLAN_RECEIVED; the check byte. -/
  | planReceived (check : Byte)
  /-- CANCEL_RECEIVED; the check byte. -/
  | cancelReceived (check : Byte)
  /-- DIAG_ASK_RECEIVED; the check byte. -/
  | diagAskReceived (check : Byte)
  /-- OTHER_REPORT_RECEIVED; the check byte. -/
  | otherReportReceived (check : Byte)
  /-- OSCILLATOR_SECOND. -/
  | oscillatorSecond
  /-- ANCHOR_LAPSE. -/
  | anchorLapse
  /-- CONFLICT_REPORT_GUARD_EXPIRY. -/
  | conflictReportGuardExpiry
  /-- TALLY_EXPIRY. -/
  | tallyExpiry
  /-- CLAIM_PERIOD_EXPIRY. -/
  | claimPeriodExpiry
  /-- DEFAULT_PLAN_TIMER_EXPIRY. -/
  | defaultPlanTimerExpiry
  /-- ENERGY_PULSE. -/
  | energyPulse
  /-- PLUG_CONTACT_CHANGE; the level the contact changes to. -/
  | plugContactChange (closed : Bool)
  /-- PLUG_CLOSED. -/
  | plugClosed
  /-- PLUG_OPEN. -/
  | plugOpen
  /-- LINK_RESET_RESULT; the microseconds after release at which the line went low (none where it never did), and whether it was high
  again by 500 microseconds (R114). -/
  | linkResetResult (fellAt : Option Nat) (highAgain : Bool)
  /-- RESET_RETRY_WAIT_EXPIRY. -/
  | resetRetryWaitExpiry
  /-- IDENT_REPLY. -/
  | identReply (reply : LinkReply)
  /-- STATUS_REPLY. -/
  | statusReply (reply : LinkReply)
  /-- HEATER_REPLY. -/
  | heaterReply (reply : LinkReply)
  /-- BUSY_REPOLL_WAIT_EXPIRY. -/
  | busyRepollWaitExpiry
  /-- SERVICE_PAUSE_END. -/
  | servicePauseEnd
  /-- RECOVERY_TIMER_EXPIRY. -/
  | recoveryTimerExpiry
  /-- POLL_TIMER_EXPIRY. -/
  | pollTimerExpiry
  /-- SENSE_READS_CLOSED. -/
  | senseReadsClosed
  /-- SENSE_READS_OPEN. -/
  | senseReadsOpen
  /-- CLOSE_SENSE_TIMER_EXPIRY. -/
  | closeSenseTimerExpiry
  /-- OPEN_SENSE_TIMER_EXPIRY. -/
  | openSenseTimerExpiry
  /-- RETRY_WAIT_EXPIRY. -/
  | retryWaitExpiry
  /-- DRAW_WAIT_EXPIRY. -/
  | drawWaitExpiry
  /-- DRAW_UPDATE; the draw reported, in power units. -/
  | drawUpdate (power : Nat)
  /-- METER_LOST. -/
  | meterLost
  /-- BYTE_TAKEN; the byte. -/
  | byteTaken (byte : Byte)
  /-- DOMINANT_LEVEL_IN_GAP. -/
  | dominantLevelInGap
  deriving DecidableEq, Repr

/-- The row of spec/opcode_table.json a command stands for, as the table spells it. -/
def Instr.mnemonic : Instr → String
  | .powerUp _ => "POWER_UP"
  | .brownOut _ => "BROWN_OUT"
  | .imageReadComplete _ _ => "IMAGE_READ_COMPLETE"
  | .frameGapComplete => "FRAME_GAP_COMPLETE"
  | .joinForeignStart => "JOIN_FOREIGN_START"
  | .arbitrationLoss => "ARBITRATION_LOSS"
  | .transmitMismatch => "TRANSMIT_MISMATCH"
  | .frameSentWhole => "FRAME_SENT_WHOLE"
  | .diagSentWhole => "DIAG_SENT_WHOLE"
  | .lineClear => "LINE_CLEAR"
  | .lineStuck => "LINE_STUCK"
  | .lineStuckRelease => "LINE_STUCK_RELEASE"
  | .openingFailure _ => "OPENING_FAILURE"
  | .missingStopBit => "MISSING_STOP_BIT"
  | .truncation => "TRUNCATION"
  | .lengthFailure _ => "LENGTH_FAILURE"
  | .checkFailure _ => "CHECK_FAILURE"
  | .unexpectedFrame _ => "UNEXPECTED_FRAME"
  | .claimReceived _ => "CLAIM_RECEIVED"
  | .siteReceived _ => "SITE_RECEIVED"
  | .planReceived _ => "PLAN_RECEIVED"
  | .cancelReceived _ => "CANCEL_RECEIVED"
  | .diagAskReceived _ => "DIAG_ASK_RECEIVED"
  | .otherReportReceived _ => "OTHER_REPORT_RECEIVED"
  | .oscillatorSecond => "OSCILLATOR_SECOND"
  | .anchorLapse => "ANCHOR_LAPSE"
  | .conflictReportGuardExpiry => "CONFLICT_REPORT_GUARD_EXPIRY"
  | .tallyExpiry => "TALLY_EXPIRY"
  | .claimPeriodExpiry => "CLAIM_PERIOD_EXPIRY"
  | .defaultPlanTimerExpiry => "DEFAULT_PLAN_TIMER_EXPIRY"
  | .energyPulse => "ENERGY_PULSE"
  | .plugContactChange _ => "PLUG_CONTACT_CHANGE"
  | .plugClosed => "PLUG_CLOSED"
  | .plugOpen => "PLUG_OPEN"
  | .linkResetResult _ _ => "LINK_RESET_RESULT"
  | .resetRetryWaitExpiry => "RESET_RETRY_WAIT_EXPIRY"
  | .identReply _ => "IDENT_REPLY"
  | .statusReply _ => "STATUS_REPLY"
  | .heaterReply _ => "HEATER_REPLY"
  | .busyRepollWaitExpiry => "BUSY_REPOLL_WAIT_EXPIRY"
  | .servicePauseEnd => "SERVICE_PAUSE_END"
  | .recoveryTimerExpiry => "RECOVERY_TIMER_EXPIRY"
  | .pollTimerExpiry => "POLL_TIMER_EXPIRY"
  | .senseReadsClosed => "SENSE_READS_CLOSED"
  | .senseReadsOpen => "SENSE_READS_OPEN"
  | .closeSenseTimerExpiry => "CLOSE_SENSE_TIMER_EXPIRY"
  | .openSenseTimerExpiry => "OPEN_SENSE_TIMER_EXPIRY"
  | .retryWaitExpiry => "RETRY_WAIT_EXPIRY"
  | .drawWaitExpiry => "DRAW_WAIT_EXPIRY"
  | .drawUpdate _ => "DRAW_UPDATE"
  | .meterLost => "METER_LOST"
  | .byteTaken _ => "BYTE_TAKEN"
  | .dominantLevelInGap => "DOMINANT_LEVEL_IN_GAP"

end Sys2Proof
end

