-- ==== Sys2Proof/Decode.lean ====
section
/-! DEFINITION. The commands a table word spells: spec/opcode_table.json gives no row any bits, so no word spells one (log 20). -/

namespace Sys2Proof

/-- The command whose table bits are `w`; the table gives none (98_reader.md, "n_rows_with_fixed": 0). -/
def decodeTableWord (_nbits _w : Nat) : Option Instr := none

end Sys2Proof
end

