-- ==== Sys2Proof/Machine/Bytes.lean ====
section
/-! DEFINITION. Byte order, the bits on the two lines and of the commissioning memory, the frame header and the CRC-8 (R1, R7, R8, R115,
R147; 00_scope.md, "Bytes and bits"). -/

namespace Sys2Proof.Machine

/-- A multi-byte field as a number, least significant byte first (11, conventions). -/
def leNat : List Byte → Nat
  | [] => 0
  | b :: bs => b.toNat + 256 * leNat bs

/-- A number as so many bytes, least significant first (11, conventions). -/
def leBytes : Nat → Nat → List Byte
  | 0, _ => []
  | n + 1, v => BitVec.ofNat 8 v :: leBytes n (v / 256)

/-- The field of `n` bytes at offset `off` (11, conventions). -/
def fieldAt (bs : List Byte) (off n : Nat) : Nat := leNat ((bs.drop off).take n)

/-- The byte at an offset; 0 past the end, where no layout reads. -/
def byteAt (bs : List Byte) (off : Nat) : Byte := bs.getD off 0

/-- Bit `i` of the byte at an offset, bit 0 the least significant (11, conventions). -/
def flagAt (bs : List Byte) (off i : Nat) : Bool := (byteAt bs off).getLsbD i

/-- A flag's weight in a flag byte. -/
def bitWeight (b : Bool) (i : Nat) : Nat := if b then 2 ^ i else 0

/-- The eight data bits in line order, least significant first (R1). -/
def dataBits (b : Byte) : List Bool := (List.range 8).map b.getLsbD

/-- The ten levels of a byte on the line, recessive true: start bit, data bits, stop bit (R1). -/
def lineLevels (b : Byte) : List Bool := false :: dataBits b ++ [true]

/-- The levels of a whole frame, its bytes back to back (R1). -/
def frameLevels (bytes : List Byte) : List Bool := bytes.flatMap lineLevels

/-- The recessive bit times a run of levels ends with (R5). -/
def recessiveRun (levels : List Bool) : Nat := (levels.reverse.takeWhile id).length

/-- How many recessive bit times the line has had when a byte's stop bit ends: the stop bit and the 1 bits sent just before it (R1, R5).
DEDUCED (log 5): only the recessive count is formed from it. -/
def recessiveTail (b : Byte) : Nat := recessiveRun (lineLevels b)

/-! ## Bit slots of the plug link (R115) -/

/-- The write slots of some bytes, a write 1 true: each byte least significant bit first, without a gap (R115). -/
def writeSlots (bytes : List Byte) : List Bool := bytes.flatMap dataBits

/-- Read slots as a number, the first the least significant (R115). -/
def slotNat : List Bool → Nat
  | [] => 0
  | b :: bs => bitWeight b 0 + 2 * slotNat bs

/-- The byte of the next eight read slots (R115). -/
def slotByte (slots : List Bool) : Byte := BitVec.ofNat 8 (slotNat (slots.take 8))

/-- So many bytes from read slots, in the order read (R115). -/
def slotBytes : Nat → List Bool → List Byte
  | 0, _ => []
  | n + 1, slots => slotByte slots :: slotBytes n (slots.drop 8)

/-! ## Serial bits of the commissioning memory (R147) -/

/-- The serial data bits of some bytes, each byte most significant bit first (R147). -/
def serialBits (bytes : List Byte) : List Bool := bytes.flatMap fun b => (dataBits b).reverse

/-- The byte of the next eight serial data bits, the first the most significant (R147). DEDUCED (log 34): R147 names this order for the
bytes sent, and the bytes clocked in follow it. -/
def serialByte (bits : List Bool) : Byte := slotByte (bits.take 8).reverse

/-- So many bytes from serial data bits, in the order clocked in (R147). -/
def serialBytes : Nat → List Bool → List Byte
  | 0, _ => []
  | n + 1, bits => serialByte bits :: serialBytes n (bits.drop 8)

/-! ## The header and the check value -/

/-- A header byte: bits 0 and 1 the class's higher and lower bit, bits 2 to 7 the sender id from its 32 bit down (R7). -/
def headerByte (cls id : Nat) : Byte :=
  BitVec.ofNat 8 (bitWeight (cls.testBit 1) 0 + bitWeight (cls.testBit 0) 1 + bitWeight (id.testBit 5) 2 + bitWeight (id.testBit 4) 3
    + bitWeight (id.testBit 3) 4 + bitWeight (id.testBit 2) 5 + bitWeight (id.testBit 1) 6 + bitWeight (id.testBit 0) 7)

/-- The class a received header carries (R7). -/
def headerClass (h : Byte) : Nat := bitWeight (h.getLsbD 0) 1 + bitWeight (h.getLsbD 1) 0

/-- The sender id a received header carries (R7). -/
def headerSender (h : Byte) : Nat :=
  bitWeight (h.getLsbD 2) 5 + bitWeight (h.getLsbD 3) 4 + bitWeight (h.getLsbD 4) 3 + bitWeight (h.getLsbD 5) 2
    + bitWeight (h.getLsbD 6) 1 + bitWeight (h.getLsbD 7) 0

/-- A station id a sender may have (R7, R9, R24). -/
def validSender (id : Nat) : Bool := decide (1 ≤ id ∧ id ≤ 62)

/-- One data bit fed to the check register (R8). -/
def crcFeedBit (r : Byte) (d : Bool) : Byte :=
  if r.getLsbD 7 = d then r <<< 1 else (r <<< 1) ^^^ 0x07#8

/-- One byte fed to the check register, least significant bit first (R8). -/
def crcFeedByte (r b : Byte) : Byte := (dataBits b).foldl crcFeedBit r

/-- The check value over some bytes (R8). -/
def crc8 (bs : List Byte) : Byte := bs.foldl crcFeedByte 0#8

/-- Division rounded up (00_scope.md, "Arithmetic"). -/
def divUp (a b : Nat) : Nat := (a + (b - 1)) / b

end Sys2Proof.Machine
end

