-- ==== Sys2Proof/Config.lean ====
section
/-! DEFINITION. The commissioning image's values, the part's whole configuration (R149, R161). They are read once and do not change
until the next power-on reset. The spec leaves no result of any command open, so there is no free value here. -/

namespace Sys2Proof

/-- The three markers of a window or of the default entry (R76). -/
structure Markers where
  restricted : Bool
  bulkPermit : Bool
  warmPermit : Bool
  deriving DecidableEq, Repr

/-- One window slot (R75, R76): the depot minutes from `startMinute` up to, but not including, `stopMinute`. -/
structure Window where
  startMinute : Nat
  stopMinute : Nat
  markers : Markers
  deriving DecidableEq, Repr

/-- The image's values under the names of R161's table. -/
structure Settings where
  stationId : Nat
  pBay : Nat
  pMin : Nat
  rampStep : Nat
  cap : Nat
  marginPermille : Nat
  fallbackLoad : Nat
  defaultDeparture : Nat
  defaultTarget : Nat
  defaultCabin : Bool
  warmThreshold : Int
  warmAllotment : Nat
  taperSoc : Nat
  taperCeiling : Nat
  cabinWindow : Nat
  cabinAllotment : Nat
  policyEnable : Bool
  mapEnable : Bool
  windowCount : Nat
  defaultEntry : Markers
  windows : List Window
  classCodes : List Nat
  deriving DecidableEq, Repr

/-- No contents: what the part holds before an image is accepted and in CONFIG-FAULT (R75). DESIGN CHOICE (log 12), unsafe: the spec
gives the fields no values there; no block reads them. -/
def Settings.none : Settings where
  stationId := 0
  pBay := 0
  pMin := 0
  rampStep := 0
  cap := 0
  marginPermille := 0
  fallbackLoad := 0
  defaultDeparture := 0
  defaultTarget := 0
  defaultCabin := false
  warmThreshold := 0
  warmAllotment := 0
  taperSoc := 0
  taperCeiling := 0
  cabinWindow := 0
  cabinAllotment := 0
  policyEnable := false
  mapEnable := false
  windowCount := 0
  defaultEntry := ⟨false, false, false⟩
  windows := []
  classCodes := []

end Sys2Proof
end

