-- ==== Sys2Proof/Machine/State.lean ====
section
/-! DEFINITION. The block's state as plain data: one record per block of 00_scope.md ("The blocks and how they work together"), the
configuration read from the image, and the queue of waiting commands; and the state right after power-on reset. -/

namespace Sys2Proof.Machine

/-- A timer of the part: stopped, or running with the interval in milliseconds it was last started with. Its expiry arrives as a
command; how much of the interval is left is timing, which the model leaves out (log 3). -/
inductive Timer where
  | stopped
  | running (ms : Nat)
  deriving DecidableEq, Repr

/-- R146, R149, R150. -/
inductive ConfigState where
  | loading
  | active
  | configFault
  deriving DecidableEq, Repr

/-- Start-up Loader (09, R146 to R151). -/
structure StartUp where
  config : ConfigState
  brownOut : Bool
  /-- The station id byte of the image last read, 0 before one has been read (R24, R155). -/
  stationId : Nat
  /-- The commissioning memory's select line, asserted while the image is being read (R147). -/
  memorySelected : Bool
  /-- The serial data bits sent to the commissioning memory for the read, in the order sent (R147). -/
  memorySent : List Bool
  deriving DecidableEq, Repr

/-- The line states of 01 section 1.1. -/
inductive LineState where
  | idle
  | receiving
  | sending
  | gap
  deriving DecidableEq, Repr

/-- The seven sticky error flags of R15. -/
structure ErrorFlags where
  opening : Bool
  byte : Bool
  clearInFrame : Bool
  check : Bool
  length : Bool
  unexpected : Bool
  txMismatch : Bool
  deriving DecidableEq, Repr

/-- The contents of an own CLAIM (R74, R159). -/
structure ClaimContents where
  time : Nat
  floor : Nat
  ceiling : Nat
  urgency : Nat
  draw : Nat
  forecast : Nat
  atRisk : Bool
  deriving DecidableEq, Repr

/-- The report kinds of R153. -/
inductive ReportKind where
  | arrival
  | planTaken
  | planRefused
  | stepEnd
  | atRisk
  | done
  | cancelled
  | departed
  | fault
  deriving DecidableEq, Repr

/-- The contents of a REPORT, all four filled at queueing (R153). -/
structure ReportContents where
  kind : ReportKind
  tag : VanTag
  detail : Nat
  minute : Nat
  deriving DecidableEq, Repr

/-- A frame of the part's own waiting to be sent. A DIAG's contents are a snapshot taken at each attempt, so none are kept (R22). -/
inductive OwnFrame where
  | claim (contents : ClaimContents)
  | report (contents : ReportContents)
  | diag
  deriving DecidableEq, Repr

/-- A transmit queue entry: the frame, its retry count, whether an attempt with it is on the line, and whether it is a CLAIM replaced
since that attempt began (R18, R20, R21). Its queueing time is its place among the entries of its class (log 6). -/
structure QueueEntry where
  frame : OwnFrame
  retries : Nat
  onLine : Bool
  replaced : Bool
  deriving DecidableEq, Repr

/-- What the part drives on the depot line (R1): the line left recessive, or, while it sends, the levels of a frame, one per bit time,
recessive true. -/
inductive LineOutput where
  | recessive
  | frame (levels : List Bool)
  deriving DecidableEq, Repr

/-- Line Interface (01 section 1.1). -/
structure LineInterface where
  line : LineState
  /-- In GAP, the recessive bit times since the last dominant level, as the last command left them (R5, log 5). -/
  recessive : Nat
  rxBuffer : List Byte
  queue : List QueueEntry
  validCount : Nat
  discardCount : Nat
  errors : ErrorFlags
  stuck : Bool
  stuckSeen : Bool
  output : LineOutput
  /-- The bit times of the last line clear the part drove, 0 before one (R18). A record of an output, kept by the model (log 8). -/
  clearDriven : Nat
  deriving DecidableEq, Repr

/-- R25. -/
inductive ClockSource where
  | unset
  | peer
  | anchored
  deriving DecidableEq, Repr

/-- Depot Clock (02 section 2.1). -/
structure DepotClock where
  time : Nat
  /-- Milliseconds into the current second. Only its restarts are commands (log 3). -/
  secondPhase : Nat
  source : ClockSource
  anchorAge : Nat
  deriving DecidableEq, Repr

/-- One entry of the view (03 section 3.1). -/
structure PeerEntry where
  id : Nat
  floor : Nat
  ceiling : Nat
  urgency : Nat
  draw : Nat
  age : Nat
  stale : Bool
  deriving DecidableEq, Repr

/-- Peer View (03). -/
structure PeerView where
  entries : List PeerEntry
  unlistedDraw : Nat
  tallyTimer : Timer
  conflictGuard : Timer
  deriving DecidableEq, Repr

/-- The own claim (R58, R59). -/
structure OwnClaim where
  claimant : Bool
  floor : Nat
  ceiling : Nat
  urgency : Nat
  atRisk : Bool
  deriving DecidableEq, Repr

/-- Share Computer (04 section 4.1). -/
structure ShareComputer where
  claimTimer : Timer
  own : OwnClaim
  prevClaimant : Bool
  prevFloor : Nat
  fullUrgency : Bool
  lastPosted : Nat
  siteLoad : Option Nat
  freshness : Nat
  conflictHold : Nat
  lastGoodCeiling : Nat
  deriving DecidableEq, Repr

/-- The programme states of 06 section 6.3. -/
inductive ProgState where
  | empty
  | awaiting
  | running
  | waiting
  | held
  | done
  | aborted
  deriving DecidableEq, Repr

/-- The step kinds of R94. -/
inductive StepKind where
  | warmPack
  | bulk
  | taper
  | cabin
  deriving DecidableEq, Repr

/-- The van attached at the walker (R89). -/
structure AttachedVan where
  tag : VanTag
  capacity : Nat
  deriving DecidableEq, Repr

/-- The van as the walker last heard it (R90). -/
structure VanStatus where
  soc : Nat
  temperature : Int
  deriving DecidableEq, Repr

/-- A plan (06 section 6.2). -/
structure Plan where
  tag : VanTag
  serial : Nat
  departure : Nat
  target : Nat
  cabin : Bool
  deriving DecidableEq, Repr

/-- A step record (06 section 6.4). -/
structure ProgStep where
  kind : StepKind
  amount : Nat
  ceiling : Nat
  notBefore : Option Nat
  notify : Bool
  last : Bool
  deriving DecidableEq, Repr

/-- The walker position (06 section 6.4). -/
structure WalkerPos where
  index : Nat
  remaining : Nat
  carry : Nat
  started : Bool
  heaterMark : Bool
  deriving DecidableEq, Repr

/-- The hold set (R88). -/
structure HoldSet where
  gateClosed : Bool
  linkLost : Bool
  meterLost : Bool
  contactorFault : Bool
  deriving DecidableEq, Repr

/-- Programme Walker (06 section 6.1). The status known mark is set exactly while `status` is present (log 19). -/
structure Walker where
  state : ProgState
  van : Option AttachedVan
  status : Option VanStatus
  held : Option Plan
  revision : Option Plan
  cancelled : Option Nat
  steps : List ProgStep
  pos : Option WalkerPos
  holds : HoldSet
  defaultTimer : Timer
  delivered : Nat
  deriving DecidableEq, Repr

/-- The link states of 07 section 7.6. -/
inductive LinkState where
  | unplugged
  | resetting
  | identifying
  | ready
  | exchange
  | lost
  deriving DecidableEq, Repr

/-- The last van identity (R119). -/
structure VanIdentity where
  tag : VanTag
  capacity : Nat
  maxAccept : Nat
  deriving DecidableEq, Repr

/-- The last van status, put in range (R120). -/
structure LinkStatus where
  soc : Nat
  temperature : Int
  acceptNow : Nat
  ready : Bool
  packRunning : Bool
  cabinRunning : Bool
  deriving DecidableEq, Repr

/-- The settings of a HEATER (R121). -/
structure Heaters where
  pack : Bool
  cabin : Bool
  deriving DecidableEq, Repr

/-- The command an exchange writes (R116). -/
inductive LinkCommand where
  | ident
  | status
  | heater (settings : Heaters)
  deriving DecidableEq, Repr

/-- The exchange in flight (R118). -/
structure Exchange where
  command : LinkCommand
  busy : Nat
  bad : Nat
  deriving DecidableEq, Repr

/-- What PL last drove onto the link line (R114, R116): the write slots of a command, a write 1 true (R115). A record of an output, kept by the
model (log 8). -/
inductive LinkOutput where
  | released
  | linkReset
  | command (slots : List Bool)
  deriving DecidableEq, Repr

/-- Plug Link (07 section 7.1). -/
structure PlugLink where
  /-- The plug contact as last sampled: closed or open, or not sampled. -/
  contact : Option Bool
  plugClosed : Bool
  settle : Timer
  link : LinkState
  identity : Option VanIdentity
  status : Option LinkStatus
  accept : Nat
  heaterWanted : Option Heaters
  wantStatus : Bool
  wantHeater : Option Heaters
  exchange : Option Exchange
  failures : Nat
  misses : Nat
  pollTimer : Timer
  recoveryTimer : Timer
  /-- The 1 s before the next link reset in RESETTING (R119, R122). -/
  resetWait : Timer
  /-- The 50 ms before a re-poll (R118). -/
  busyWait : Timer
  /-- The 1 s service pause (R118). -/
  pause : Timer
  /-- A link reset has been sent and its 500 microseconds are not over (R114). -/
  resetOnLine : Bool
  output : LinkOutput
  deriving DecidableEq, Repr

/-- The two phases of OPENING (R138). -/
inductive OpeningPhase where
  | draw
  | sense
  deriving DecidableEq, Repr

/-- The contactor states of 08 section 8.4. -/
inductive Contactor where
  | isOpen
  | closing
  | isClosed
  | opening (phase : OpeningPhase)
  | closeFault
  | weldFault
  deriving DecidableEq, Repr

/-- Power Stage Control (08 section 8.1). -/
structure PowerStage where
  setpoint : Nat
  target : Nat
  shedHold : Nat
  acceptLimit : Nat
  plugDetected : Bool
  linkWorking : Bool
  viewState : ProgState
  viewLinkLost : Bool
  viewMeterLost : Bool
  contactor : Contactor
  drive : Bool
  closeLatch : Bool
  weldLatch : Bool
  closeMisses : Nat
  retryWait : Timer
  senseTimer : Timer
  drawWait : Timer
  draw : Nat
  updateTaken : Bool
  /-- Whole seconds since the last update, as far as a command has shown them; absent before ACTIVE (R129, R142, log 22). -/
  updateAge : Option Nat
  meterLost : Bool
  /-- The auxiliary sense input as last read. -/
  senseClosed : Bool
  deriving DecidableEq, Repr

/-- Everything the spec gives the part, and the queue of waiting commands. -/
structure State where
  sl : StartUp
  cfg : Settings
  li : LineInterface
  dc : DepotClock
  pv : PeerView
  sc : ShareComputer
  pw : Walker
  pl : PlugLink
  ps : PowerStage
  pending : List Instr
  deriving DecidableEq, Repr

/-- Why the part stops: the spec gives no event that stops it, so no command faults (safe). -/
inductive Fault
  deriving DecidableEq, Repr

/-- Why a command is refused. -/
inductive Refusal where
  /-- Raised by exec's arm of a command that has no meaning yet; safe, since the machine stops. No arm raises it. -/
  | notModelled (mnemonic : String)
  deriving DecidableEq, Repr

/-- What a command answers. -/
abbrev Answer := Host.Outcome State Fault Refusal

/-! One update per block: the rest of the state stays as it is. -/

def State.withSl (s : State) (x : StartUp) : State := { s with sl := x }
def State.withCfg (s : State) (x : Settings) : State := { s with cfg := x }
def State.withLi (s : State) (x : LineInterface) : State := { s with li := x }
def State.withDc (s : State) (x : DepotClock) : State := { s with dc := x }
def State.withPv (s : State) (x : PeerView) : State := { s with pv := x }
def State.withSc (s : State) (x : ShareComputer) : State := { s with sc := x }
def State.withPw (s : State) (x : Walker) : State := { s with pw := x }
def State.withPl (s : State) (x : PlugLink) : State := { s with pl := x }
def State.withPs (s : State) (x : PowerStage) : State := { s with ps := x }

/-! Each block's values after power-on reset. -/

/-- R146, R147: LOADING, the image read begun with the read command and the two address bytes. The station id before an image is read is
log 12. -/
def StartUp.reset : StartUp where
  config := .loading
  brownOut := false
  stationId := 0
  memorySelected := true
  memorySent := serialBits [0x03, 0x00, 0x00]

/-- No flag set (01 section 1.1). -/
def ErrorFlags.clear : ErrorFlags := ⟨false, false, false, false, false, false, false⟩

/-- 01 section 1.1. -/
def LineInterface.reset : LineInterface where
  line := .gap
  recessive := 0
  rxBuffer := []
  queue := []
  validCount := 0
  discardCount := 0
  errors := .clear
  stuck := false
  stuckSeen := false
  output := .recessive
  clearDriven := 0

/-- R25. -/
def DepotClock.reset : DepotClock where
  time := 0
  secondPhase := 0
  source := .unset
  anchorAge := 0

/-- R51. -/
def PeerView.reset : PeerView where
  entries := []
  unlistedDraw := 0
  tallyTimer := .stopped
  conflictGuard := .stopped

/-- The own claim of a non-claimant (R58). -/
def OwnClaim.nonClaimant (atRisk : Bool) : OwnClaim := ⟨false, 0, 0, 0, atRisk⟩

/-- 04 section 4.1. -/
def ShareComputer.reset : ShareComputer where
  claimTimer := .stopped
  own := .nonClaimant false
  prevClaimant := false
  prevFloor := 0
  fullUrgency := false
  lastPosted := 0
  siteLoad := none
  freshness := 0
  conflictHold := 0
  lastGoodCeiling := 0

/-- 06 section 6.1, with no weld found. -/
def Walker.reset : Walker where
  state := .empty
  van := none
  status := none
  held := none
  revision := none
  cancelled := none
  steps := []
  pos := none
  holds := ⟨false, false, false, false⟩
  defaultTimer := .stopped
  delivered := 0

/-- 07 section 7.1. -/
def PlugLink.reset : PlugLink where
  contact := none
  plugClosed := false
  settle := .stopped
  link := .unplugged
  identity := none
  status := none
  accept := 0
  heaterWanted := none
  wantStatus := false
  wantHeater := none
  exchange := none
  failures := 0
  misses := 0
  pollTimer := .stopped
  recoveryTimer := .stopped
  resetWait := .stopped
  busyWait := .stopped
  pause := .stopped
  resetOnLine := false
  output := .released

/-- 08 section 8.1, with the sense reading open. -/
def PowerStage.reset : PowerStage where
  setpoint := 0
  target := 0
  shedHold := 0
  acceptLimit := 0
  plugDetected := false
  linkWorking := false
  viewState := .empty
  viewLinkLost := false
  viewMeterLost := false
  contactor := .isOpen
  drive := false
  closeLatch := false
  weldLatch := false
  closeMisses := 0
  retryWait := .stopped
  senseTimer := .stopped
  drawWait := .stopped
  draw := 0
  updateTaken := false
  updateAge := none
  meterLost := false
  senseClosed := false

/-- The part right after a power-up reset with the auxiliary sense reading open (log 11), no command waiting. -/
def State.reset : State where
  sl := .reset
  cfg := .none
  li := .reset
  dc := .reset
  pv := .reset
  sc := .reset
  pw := .reset
  pl := .reset
  ps := .reset
  pending := []

end Sys2Proof.Machine
end

