-- ==== Sys2Proof/Machine/Operands.lean ====
section
/-! DEFINITION. What the bytes a command brings mean: the frames of the depot line (R6, R11, R13, R159), the replies of the plug link
(R114, R117, R120, R160) and the commissioning image (R148, R161). -/

namespace Sys2Proof.Machine

/-! ## Frames in the receive buffer -/

/-- The payload size of each kind (01, kinds table). -/
def kindPayload : Nat → Option Nat
  | 1 => some 14
  | 2 => some 8
  | 3 => some 16
  | 4 => some 8
  | 5 => some 1
  | 6 => some 11
  | 7 => some 6
  | _ => none

/-- Whether a length byte fits a kind byte (R11). -/
def lengthFits (kind length : Nat) : Bool :=
  match kindPayload kind with
  | some n => decide (length = n)
  | none => decide (length ≤ 24)

/-- The header, kind and length of the frame in a buffer (R6). -/
def frameHeader (buf : List Byte) : Byte := byteAt buf 0
def frameSender (buf : List Byte) : Nat := headerSender (frameHeader buf)
def frameClass (buf : List Byte) : Nat := headerClass (frameHeader buf)
def frameKind (buf : List Byte) : Nat := (byteAt buf 1).toNat
def frameLength (buf : List Byte) : Nat := (byteAt buf 2).toNat
def framePayload (buf : List Byte) : List Byte := buf.drop 3

/-- The buffer holds every byte of its frame but the check byte (R6). -/
def awaitsCheck (buf : List Byte) : Bool := decide (3 ≤ buf.length ∧ buf.length = 3 + frameLength buf)

/-- A SITE frame's over-cap flag (R159). -/
def siteOverCap (buf : List Byte) : Bool := flagAt (framePayload buf) 7 0

/-- The classes and kinds tables, with the over-cap test (R13). -/
def frameExpected (buf : List Byte) : Bool :=
  match frameKind buf with
  | 1 => decide (frameClass buf = 2)
  | 2 => decide (frameClass buf = if siteOverCap buf then 0 else 1)
  | 3 | 4 | 5 => decide (frameClass buf = 1)
  | 6 | 7 => decide (frameClass buf = 3)
  | _ => false

/-- A check byte that agrees (R12). -/
def checkAgrees (buf : List Byte) (check : Byte) : Bool := decide (crc8 buf = check)

/-- The check byte completes a frame that passes every receive check and is of this kind (R12, R13). -/
def completesFrame (kind : Nat) (buf : List Byte) (check : Byte) : Bool :=
  awaitsCheck buf && checkAgrees buf check && frameExpected buf && decide (frameKind buf = kind)

/-- The fields of a received CLAIM the part uses (R28, R35, R159). -/
structure RxClaim where
  sender : Nat
  time : Nat
  floor : Nat
  ceiling : Nat
  urgency : Nat
  draw : Nat
  deriving DecidableEq, Repr

def readClaim (buf : List Byte) : RxClaim :=
  let p := framePayload buf
  ⟨frameSender buf, fieldAt p 0 3, fieldAt p 3 2, fieldAt p 5 2, fieldAt p 7 2, fieldAt p 9 2⟩

/-- A received SITE (R61, R133, R159). -/
structure RxSite where
  time : Nat
  building : Nat
  total : Nat
  overCap : Bool
  deriving DecidableEq, Repr

def readSite (buf : List Byte) : RxSite :=
  let p := framePayload buf
  ⟨fieldAt p 0 3, fieldAt p 3 2, fieldAt p 5 2, siteOverCap buf⟩

/-- A received PLAN's time field and plan; the target is put in range when the plan is taken (R97, R159). -/
def readPlanTime (buf : List Byte) : Nat := fieldAt (framePayload buf) 0 3

def readPlan (buf : List Byte) : Plan :=
  let p := framePayload buf
  ⟨BitVec.ofNat 48 (fieldAt p 3 6), fieldAt p 9 2, fieldAt p 11 2, fieldAt p 13 2, flagAt p 15 0⟩

/-- A received CANCEL's tag and serial (R159). -/
def readCancelTag (buf : List Byte) : VanTag := BitVec.ofNat 48 (fieldAt (framePayload buf) 0 6)
def readCancelSerial (buf : List Byte) : Nat := fieldAt (framePayload buf) 6 2

/-- A received DIAG-ASK's target (R159). -/
def readTarget (buf : List Byte) : Nat := fieldAt (framePayload buf) 0 1

/-! ## The plug link -/

/-- Presence after a link reset (R114): low from 60 to 240 microseconds after release, and high again by 500. -/
def presenceSeen (fellAt : Option Nat) (highAgain : Bool) : Bool :=
  match fellAt with
  | some t => decide (60 ≤ t ∧ t ≤ 240) && highAgain
  | none => false

/-- The bytes a command writes (R160). -/
def LinkCommand.bytes : LinkCommand → List Byte
  | .ident => [0x11#8]
  | .status => [0x12#8]
  | .heater h => [0x13#8, BitVec.ofNat 8 (bitWeight h.pack 0 + bitWeight h.cabin 1)]

/-- The write slots of a command (R115, R116). -/
def LinkCommand.slots (c : LinkCommand) : List Bool := writeSlots c.bytes

/-- The reply data bytes of a command (R116, R160). -/
def LinkCommand.replyBytes : LinkCommand → Nat
  | .ident => 10
  | .status => 6
  | .heater _ => 0

/-- The read slots of a reply: after VALID, where the command has reply data, the status, the data, the check byte and the stop slot, and
otherwise the status and the stop slot (R116). -/
def LinkCommand.readSlots (cmd : LinkCommand) (status : Byte) : Nat :=
  if status = 0x5A#8 ∧ cmd.replyBytes ≠ 0 then 8 * (cmd.replyBytes + 2) + 1 else 9

end Sys2Proof.Machine

namespace Sys2Proof

/-- The status byte of a reply, formed from its first eight read slots (R115, R116). -/
def LinkReply.status (r : LinkReply) : Byte := Machine.slotByte r.slots

/-- The data bytes of a reply: what stands between the status and the check byte (R116). -/
def LinkReply.data (r : LinkReply) : List Byte := Machine.slotBytes ((r.slots.length - 17) / 8) (r.slots.drop 8)

/-- The check byte of a reply, the last byte before the stop slot (R116). -/
def LinkReply.check (r : LinkReply) : Byte := Machine.slotByte (r.slots.drop (r.slots.length - 9))

/-- What the stop slot read (R116). A slot in which the van does not answer reads 1 (R115). -/
def LinkReply.stopSlot (r : LinkReply) : Bool := r.slots.getLastD true

end Sys2Proof

namespace Sys2Proof.Machine

/-- The verdicts of R117. -/
inductive Verdict where
  | bad
  | busy
  | refused
  | valid
  deriving DecidableEq, Repr

/-- R117: the first case that holds decides. A HEATER's VALID reply carries no data and no check byte (R116, log 24). -/
def judgeReply (cmd : LinkCommand) (r : LinkReply) : Verdict :=
  if r.stopSlot then .bad
  else if r.status = 0x5A#8 then
    if cmd.replyBytes = 0 ∨ crc8 (r.status :: r.data) = r.check then .valid else .bad
  else if r.status = 0x3C#8 then .busy
  else if r.status = 0x66#8 then .refused
  else .bad

/-- PL reads as many slots as the command and the status ask for (R116). -/
def replyFits (cmd : LinkCommand) (r : LinkReply) : Bool := decide (r.slots.length = cmd.readSlots r.status)

/-- The identity a VALID IDENT carries, put in range (R119, R160). -/
def readIdentity (d : List Byte) : VanIdentity :=
  ⟨BitVec.ofNat 48 (fieldAt d 0 6), min (fieldAt d 6 2) 3000, min (fieldAt d 8 2) 9999⟩

/-- An integer put in a range. -/
def clampInt (lo hi x : Int) : Int := max lo (min hi x)

/-- The status a VALID STATUS carries, put in range (R120, R160). -/
def readLinkStatus (d : List Byte) : LinkStatus where
  soc := min (fieldAt d 0 2) 1000
  temperature := clampInt (-40) 85 (byteAt d 2).toInt
  acceptNow := min (fieldAt d 3 2) 9999
  ready := flagAt d 5 0
  packRunning := flagAt d 5 1
  cabinRunning := flagAt d 5 2

/-! ## The commissioning image -/

/-- A flag or enable is on when its byte is non-zero (R161). -/
def onAt (img : List Byte) (off : Nat) : Bool := decide (byteAt img off ≠ 0#8)

/-- The marker byte at an offset (R161). -/
def markersAt (img : List Byte) (off : Nat) : Markers := ⟨flagAt img off 0, flagAt img off 1, flagAt img off 2⟩

/-- Window slot `n` (R161). -/
def windowAt (img : List Byte) (n : Nat) : Window :=
  let o := 32 + 5 * n
  ⟨fieldAt img o 2, fieldAt img (o + 2) 2, markersAt img (o + 4)⟩

/-- Draw class code `i`: even indices in the low four bits, odd in the high four (R161). -/
def classCodeAt (img : List Byte) (i : Nat) : Nat := fieldAt img (92 + i / 2) 1 / (if i % 2 = 0 then 1 else 16) % 16

/-- The image's fields at the offsets of R161. -/
def readImage (img : List Byte) : Settings where
  stationId := fieldAt img 0 1
  pBay := fieldAt img 1 2
  pMin := fieldAt img 3 2
  rampStep := fieldAt img 5 2
  cap := fieldAt img 7 2
  marginPermille := fieldAt img 9 1
  fallbackLoad := fieldAt img 10 2
  defaultDeparture := fieldAt img 12 2
  defaultTarget := fieldAt img 14 2
  defaultCabin := onAt img 16
  warmThreshold := (byteAt img 17).toInt
  warmAllotment := fieldAt img 18 2
  taperSoc := fieldAt img 20 2
  taperCeiling := fieldAt img 22 2
  cabinWindow := fieldAt img 24 2
  cabinAllotment := fieldAt img 26 2
  policyEnable := onAt img 28
  mapEnable := onAt img 29
  windowCount := fieldAt img 30 1
  defaultEntry := markersAt img 31
  windows := (List.range 12).map (windowAt img)
  classCodes := (List.range 8).map (classCodeAt img)

/-- Every check of R148. -/
def imageValid (c : Settings) : Bool :=
  validSender c.stationId
    && decide (10 ≤ c.pMin ∧ c.pMin ≤ c.pBay ∧ c.pBay ≤ 1500)
    && decide (1 ≤ c.rampStep ∧ c.rampStep ≤ c.pBay)
    && decide (c.marginPermille ≤ 200)
    && decide (100 ≤ c.cap ∧ c.cap ≤ 60000)
    && decide (c.fallbackLoad ≤ 60000)
    && decide (c.defaultDeparture < 1440)
    && decide (c.defaultTarget ≤ 1000 ∧ c.taperSoc ≤ 1000)
    && decide (c.warmAllotment ≤ 3000 ∧ c.cabinAllotment ≤ 3000)
    && decide (c.pMin ≤ c.taperCeiling ∧ c.taperCeiling ≤ c.pBay)
    && decide (c.windowCount ≤ 12)
    && (c.windows.take c.windowCount).all (fun w => decide (w.startMinute < w.stopMinute ∧ w.stopMinute ≤ 1440))
    && c.classCodes.all (fun k => decide (k ≤ 4))

end Sys2Proof.Machine
end

