-- ==== Sys2Proof/Machine/Flags.lean ====
section
/-! DEFINITION. The counts and flags of the Line Interface, and the bytes of the frames the part sends (R15, R33, R153, R156, R159). -/

namespace Sys2Proof.Machine

/-- A count raised by 1, staying at its top (R15). -/
def raiseTo (top n : Nat) : Nat := if n < top then n + 1 else n

def LineInterface.raiseValid (li : LineInterface) : LineInterface := { li with validCount := raiseTo 65535 li.validCount }
def LineInterface.raiseDiscard (li : LineInterface) : LineInterface := { li with discardCount := raiseTo 255 li.discardCount }

/-- The clock is SET when its source is PEER or ANCHORED (02 section 2.1). -/
def DepotClock.isSet (dc : DepotClock) : Bool := decide (dc.source ≠ .unset)

/-- The depot minute, formed at the moment of reading (02 section 2.1). -/
def DepotClock.minute (dc : DepotClock) : Nat := dc.time / 60

/-- The depot minute a REPORT carries (R33). -/
def DepotClock.reportMinute (dc : DepotClock) : Nat := if dc.isSet then dc.minute else 0xFFFF

/-- The time field a CLAIM carries (R33). -/
def DepotClock.claimTime (dc : DepotClock) : Nat := if dc.isSet then dc.time else 0xFFFFFF

/-- The tag of the attached van, or zeros (R153). -/
def Walker.tag (pw : Walker) : VanTag :=
  match pw.van with
  | some v => v.tag
  | none => 0#48

/-- The report kind codes (R159). -/
def ReportKind.code : ReportKind → Nat
  | .arrival => 1
  | .planTaken => 2
  | .planRefused => 3
  | .stepEnd => 4
  | .atRisk => 5
  | .done => 6
  | .cancelled => 7
  | .departed => 8
  | .fault => 9

/-- The step kind codes (R159). -/
def StepKind.code : StepKind → Nat
  | .warmPack => 1
  | .bulk => 2
  | .taper => 3
  | .cabin => 4

/-- The detail of a STEP-END (R159). -/
def stepEndDetail (kind : StepKind) (refused : Bool) : Nat := kind.code + if refused then 256 else 0

/-- The FAULT causes (R159). -/
def causeIdConflict : Nat := 1
def causeLinkLost : Nat := 2
def causeMeterLost : Nat := 3
def causeCloseFault : Nat := 4
def causeWeld : Nat := 5

/-- A CLAIM's payload (R159). -/
def ClaimContents.payload (c : ClaimContents) : List Byte :=
  leBytes 3 c.time ++ leBytes 2 c.floor ++ leBytes 2 c.ceiling ++ leBytes 2 c.urgency ++ leBytes 2 c.draw ++ leBytes 2 c.forecast
    ++ leBytes 1 (bitWeight c.atRisk 0)

/-- A REPORT's payload (R159). -/
def ReportContents.payload (r : ReportContents) : List Byte :=
  leBytes 1 r.kind.code ++ leBytes 6 r.tag.toNat ++ leBytes 2 r.detail ++ leBytes 2 r.minute

/-- The error flags byte of a DIAG (R159). -/
def ErrorFlags.bits (e : ErrorFlags) : Nat :=
  bitWeight e.opening 0 + bitWeight e.byte 1 + bitWeight e.clearInFrame 2 + bitWeight e.check 3 + bitWeight e.length 4
    + bitWeight e.unexpected 5 + bitWeight e.txMismatch 6

/-- The state flags byte of a DIAG (R156, R159). -/
def stateFlagBits (s : State) : Nat :=
  bitWeight (decide (s.sl.config = .configFault)) 0 + bitWeight s.sl.brownOut 1 + bitWeight s.ps.weldLatch 2
    + bitWeight s.ps.closeLatch 3 + bitWeight (decide (0 < s.sc.conflictHold)) 4 + bitWeight s.li.stuckSeen 5

/-- The DIAG snapshot, taken as an attempt to send it begins (R50, R156, R159). -/
def diagPayload (s : State) : List Byte :=
  leBytes 2 s.li.validCount ++ leBytes 1 s.li.discardCount ++ leBytes 1 s.li.errors.bits ++ leBytes 1 (stateFlagBits s)
    ++ leBytes 1 s.pv.entries.length

/-- The class a frame of the part's own travels in (01, classes table). -/
def OwnFrame.cls : OwnFrame → Nat
  | .claim _ => 2
  | .report _ => 3
  | .diag => 3

/-- A whole frame: header, kind, length, payload, check (R6 to R8). -/
def frameBytes (cls id kind : Nat) (payload : List Byte) : List Byte :=
  let body := headerByte cls id :: BitVec.ofNat 8 kind :: BitVec.ofNat 8 payload.length :: payload
  body ++ [crc8 body]

/-- The bytes an attempt with a frame puts on the line, taken as the frame and the part stand at that moment (R16, R22). -/
def ownFrameBytes (s : State) : OwnFrame → List Byte
  | .claim c => frameBytes 2 s.sl.stationId 1 c.payload
  | .report r => frameBytes 3 s.sl.stationId 6 r.payload
  | .diag => frameBytes 3 s.sl.stationId 7 (diagPayload s)

end Sys2Proof.Machine
end

