-- ==== Sys2Proof/Machine/Ops.lean ====
section
/-! DEFINITION. The shared operations: the transmit queue (R16, R20 to R23), reports (R153), the plug link's request set (R125, R126),
the contactor (R135 to R139), and the walker's state check with what it tells Power Stage Control (R87, R88, R103). -/

namespace Sys2Proof.Machine

/-! ## The configuration state -/

def State.active (s : State) : Bool := decide (s.sl.config = .active)
def State.loading (s : State) : Bool := decide (s.sl.config = .loading)

def Timer.isRunning : Timer → Bool
  | .stopped => false
  | .running _ => true

/-! ## The transmit queue -/

/-- Where the part enters GAP, with the recessive bit times the line has had by then (R5). The receive buffer is empty outside RECEIVING. -/
def LineInterface.enterGap (li : LineInterface) (recessive : Nat) : LineInterface :=
  { li with line := .gap, recessive := recessive, rxBuffer := [] }

def QueueEntry.isClaim (e : QueueEntry) : Bool :=
  match e.frame with
  | .claim _ => true
  | _ => false

def QueueEntry.isDiag (e : QueueEntry) : Bool :=
  match e.frame with
  | .diag => true
  | _ => false

/-- A frame as it is queued (R20). -/
def QueueEntry.fresh (f : OwnFrame) : QueueEntry := ⟨f, 0, false, false⟩

/-- Class ascending and, within a class, oldest first (R20). -/
def insertEntry (e : QueueEntry) (q : List QueueEntry) : List QueueEntry :=
  q.takeWhile (fun x => decide (x.frame.cls ≤ e.frame.cls)) ++ e :: q.dropWhile (fun x => decide (x.frame.cls ≤ e.frame.cls))

/-- A REPORT or DIAG that is not on the line (R23). -/
def QueueEntry.displaceable (e : QueueEntry) : Bool := !e.isClaim && !e.onLine

/-- Room for one more frame: a full queue loses its oldest REPORT or DIAG off the line (R23). -/
def displace (q : List QueueEntry) : List QueueEntry := if q.length < 4 then q else q.eraseP QueueEntry.displaceable

def joinQueue (f : OwnFrame) (q : List QueueEntry) : List QueueEntry := insertEntry (.fresh f) (displace q)

/-- The newer contents in an old CLAIM's place (R21). -/
def QueueEntry.replaceClaim (c : ClaimContents) (e : QueueEntry) : QueueEntry :=
  if e.isClaim then { e with frame := .claim c, retries := 0, replaced := e.onLine } else e

/-- R21 to R23. -/
def queueFrame (f : OwnFrame) (q : List QueueEntry) : List QueueEntry :=
  match f with
  | .claim c => if q.any QueueEntry.isClaim then q.map (QueueEntry.replaceClaim c) else joinQueue f q
  | .diag => if q.any QueueEntry.isDiag then q else joinQueue f q
  | .report _ => joinQueue f q

/-- The four conditions of R16. -/
def State.maySend (s : State) : Bool :=
  decide (s.li.line = .idle) && !s.li.queue.isEmpty && !s.li.stuck && validSender s.sl.stationId

/-- The queue with its head on the line. -/
def markHead : List QueueEntry → List QueueEntry
  | [] => []
  | e :: rest => { e with onLine := true } :: rest

/-- What an attempt drives: the levels of the head frame as it stands (R1, R16, R22). -/
def State.headOutput (s : State) : LineOutput :=
  match s.li.queue with
  | [] => s.li.output
  | e :: _ => .frame (frameLevels (ownFrameBytes s e.frame))

/-- The part drives the start bit of the head frame (R16). -/
def State.beginAttempt (s : State) : State :=
  s.withLi { s.li with line := .sending, queue := markHead s.li.queue, output := s.headOutput }

/-- R16: the conditions are looked at whenever one of them changes. -/
def State.trySend (s : State) : State := if s.maySend then s.beginAttempt else s

/-- A frame queued, and begun at once where the line is free (R16, R20 to R23). -/
def State.enqueue (f : OwnFrame) (s : State) : State :=
  State.trySend (s.withLi { s.li with queue := queueFrame f s.li.queue })

/-- A REPORT queued, its fields filled now (R33, R153); only while ACTIVE. -/
def State.queueReport (kind : ReportKind) (tag : VanTag) (detail : Nat) (s : State) : State :=
  if s.active then s.enqueue (.report ⟨kind, tag, detail, s.dc.reportMinute⟩) else s

/-! ## The request set of the plug link -/

/-- A STATUS placed (R125): discarded in UNPLUGGED, merged into a STATUS in flight or in the set. -/
def PlugLink.placeStatus (pl : PlugLink) : PlugLink :=
  if pl.link = .unplugged ∨ pl.exchange.map Exchange.command = some .status then pl else { pl with wantStatus := true }

/-- A HEATER placed (R125): discarded in UNPLUGGED, the newer settings replacing the older. -/
def PlugLink.placeHeater (h : Heaters) (pl : PlugLink) : PlugLink :=
  if pl.link = .unplugged then pl else { pl with wantHeater := some h }

/-- An exchange begun: both counts 0, its command written (R116, R118). -/
def PlugLink.writeCommand (c : LinkCommand) (pl : PlugLink) : PlugLink :=
  { pl with exchange := some ⟨c, 0, 0⟩, output := .command c.slots }

/-- R126: HEATER first, else STATUS; the request leaves the set and the link enters EXCHANGE. -/
def PlugLink.beginExchange (pl : PlugLink) : PlugLink :=
  if pl.link = .ready ∧ pl.pause.isRunning = false then
    match pl.wantHeater with
    | some h => { pl.writeCommand (.heater h) with link := .exchange, wantHeater := none }
    | none => if pl.wantStatus then { pl.writeCommand .status with link := .exchange, wantStatus := false } else pl
  else pl

def State.placeStatus (s : State) : State := s.withPl s.pl.placeStatus
def State.placeHeater (h : Heaters) (s : State) : State := s.withPl (s.pl.placeHeater h)

/-- Run at the end of a command that can place a request or make the link READY (R126, log 10). -/
def State.settleLink (s : State) : State := s.withPl s.pl.beginExchange

/-! ## The contactor -/

/-- The programme view's part of R135. -/
def PowerStage.viewWants (ps : PowerStage) : Bool :=
  match ps.viewState with
  | .running => true
  | .waiting => true
  | .held => !ps.viewLinkLost && !ps.viewMeterLost
  | _ => false

/-- R135: the contactor is wanted closed. -/
def PowerStage.wanted (active : Bool) (ps : PowerStage) : Bool :=
  active && ps.plugDetected && ps.linkWorking && ps.viewWants && !ps.closeLatch && !ps.weldLatch

/-- From OPEN into CLOSING, and on to CLOSED where the sense reads closed at the moment of entry (R136). -/
def PowerStage.enterClosing (ps : PowerStage) : PowerStage :=
  if ps.senseClosed then { ps with drive := true, senseTimer := .stopped, contactor := .isClosed }
  else { ps with drive := true, senseTimer := .running 200, contactor := .closing }

/-- Into OPEN, and on to CLOSING where close is wanted there with the retry wait stopped (R136, R138). -/
def PowerStage.enterOpen (active : Bool) (ps : PowerStage) : PowerStage :=
  let p := { ps with contactor := .isOpen, senseTimer := .stopped }
  if p.wanted active = true ∧ p.retryWait.isRunning = false then p.enterClosing else p

/-- The sense phase of OPENING, which ends at once where the sense reads open (R138). -/
def PowerStage.beginSensePhase (active : Bool) (ps : PowerStage) : PowerStage :=
  let p := { ps with contactor := .opening .sense, drive := false, drawWait := .stopped, senseTimer := .running 200 }
  if p.senseClosed then p else p.enterOpen active

/-- The draw phase of OPENING, which ends at once on a good meter and a last draw below 5 (R137, R138). -/
def PowerStage.beginDrawPhase (active : Bool) (ps : PowerStage) : PowerStage :=
  let p := { ps with setpoint := 0, contactor := .opening .draw }
  if p.meterLost = false ∧ p.draw < 5 then p.beginSensePhase active else { p with drawWait := .running 2000 }

/-- PS judges anew whether the contactor is wanted, and acts at once (R135 to R138). -/
def PowerStage.judge (active : Bool) (ps : PowerStage) : PowerStage :=
  match ps.contactor with
  | .isOpen => if ps.wanted active = true ∧ ps.retryWait.isRunning = false then ps.enterClosing else ps
  | .closing => if ps.wanted active then ps else ps.beginSensePhase active
  | .isClosed => if ps.wanted active then ps else ps.beginDrawPhase active
  | .opening _ => ps
  | .closeFault => ps
  | .weldFault => ps

def State.judgeContactor (s : State) : State := s.withPs (s.ps.judge s.active)

/-! ## The setpoint -/

/-- A setpoint kept within the van accept limit; a result below P_min becomes 0 (R130, R131). -/
def limitSetpoint (pMin limit v : Nat) : Nat := if min v limit < pMin then 0 else min v limit

/-- The van accept limit taken, lowering the setpoint at once where it exceeds it (R131). A raised limit leaves the setpoint to later postings,
also where a posting falls at the same moment, against R134's words: DESIGN CHOICE (log 29). -/
def PowerStage.takeAcceptLimit (pMin limit : Nat) (ps : PowerStage) : PowerStage :=
  { ps with acceptLimit := limit, setpoint := if limit < ps.setpoint then limitSetpoint pMin limit ps.setpoint else ps.setpoint }

/-- The effective accept power handed on by PL (R112, R120, R123). -/
def State.handAccept (v : Nat) (s : State) : State :=
  (s.withPl { s.pl with accept := v }).withPs (s.ps.takeAcceptLimit s.cfg.pMin v)

/-! ## The walker's state check -/

/-- The walking states (06 section 6.3). -/
def ProgState.walking : ProgState → Bool
  | .running => true
  | .waiting => true
  | .held => true
  | _ => false

def HoldSet.holding (h : HoldSet) : Bool := h.gateClosed || h.linkLost || h.meterLost || h.contactorFault

/-- The walker position with the step it stands on. -/
def Walker.atStep (pw : Walker) : Option (WalkerPos × ProgStep) :=
  match pw.pos with
  | none => none
  | some p =>
    match pw.steps[p.index]? with
    | some st => some (p, st)
    | none => none

/-- The current step, held in the walking states only (06 section 6.3, log 15). -/
def Walker.current (pw : Walker) : Option (WalkerPos × ProgStep) := if pw.state.walking then pw.atStep else none

/-- The step's not-before minute is still to come. -/
def ProgStep.early (st : ProgStep) (minute : Nat) : Bool :=
  match st.notBefore with
  | some n => decide (minute < n)
  | none => false

/-- The three cases of the state check (R87). With a not-before step not yet started, a gate opening or an advance and a backward roll of one
moment give RUNNING or WAITING by their order, against the words of R31 and R109: the started mark of R87 is followed, DESIGN CHOICE (log 31). -/
def checkedState (holds : HoldSet) (minute : Nat) (p : WalkerPos) (st : ProgStep) : ProgState :=
  if holds.holding then .held
  else if st.early minute && !p.started then .waiting
  else .running

/-- The heater a step asks for as it enters RUNNING (R103). -/
def StepKind.heater : StepKind → Option Heaters
  | .warmPack => some ⟨true, false⟩
  | .cabin => some ⟨false, true⟩
  | .bulk => none
  | .taper => none

def heatersOff : Heaters := ⟨false, false⟩

/-- PS takes what the walker tells it: its state, and whether link LOST or meter lost is among its causes (R88, R135). -/
def PowerStage.takeView (pw : Walker) (ps : PowerStage) : PowerStage :=
  { ps with viewState := pw.state, viewLinkLost := pw.holds.linkLost, viewMeterLost := pw.holds.meterLost }

/-- The walker tells PS, which judges the contactor anew (R88, R135). -/
def State.tellPower (s : State) : State := s.withPs ((s.ps.takeView s.pw).judge s.active)

/-- The HEATER request of a step entering RUNNING with its heater mark clear (R103). -/
def requestHeat (p : WalkerPos) (st : ProgStep) (pl : PlugLink) : PlugLink :=
  match st.kind.heater with
  | some h => if p.heaterMark then pl else pl.placeHeater h
  | none => pl

/-- The position after the check answers RUNNING: started mark set, and the heater mark of a step that has a heater (R87, R103). -/
def WalkerPos.run (p : WalkerPos) (st : ProgStep) : WalkerPos :=
  { p with started := true, heaterMark := p.heaterMark || st.kind.heater.isSome }

/-- The state check at a step (R87, R103), and what it tells PS. -/
def State.checkAt (p : WalkerPos) (st : ProgStep) (s : State) : State :=
  match checkedState s.pw.holds s.dc.minute p st with
  | .running =>
    State.tellPower ((s.withPl (requestHeat p st s.pl)).withPw { s.pw with state := .running, pos := some (p.run st) })
  | other => State.tellPower (s.withPw { s.pw with state := other })

/-- The state check of R87, run where the walker holds a current step, and what it tells PS in any case (R88). -/
def State.stateCheck (s : State) : State :=
  match s.pw.atStep with
  | some (p, st) => s.checkAt p st
  | none => s.tellPower

/-- The check outside the walking states changes nothing but what PS is told (R87). -/
def State.checkWalking (s : State) : State := if s.pw.state.walking then s.stateCheck else s.tellPower

/-- A change in the hold set: recorded in every state, checked in the walking states, told to PS (R88). -/
def State.setHolds (h : HoldSet) (s : State) : State := State.checkWalking (s.withPw { s.pw with holds := h })

/-! ## The fault latches -/

/-- A latch set (R139): drive off, setpoint 0, the fault state; then the walker and, while ACTIVE, a FAULT report. -/
def State.setCloseLatch (s : State) : State :=
  State.queueReport .fault s.pw.tag causeCloseFault
    (State.setHolds { s.pw.holds with contactorFault := true }
      (s.withPs { s.ps with setpoint := 0, drive := false, senseTimer := .stopped, closeLatch := true, contactor := .closeFault }))

def State.setWeldLatch (s : State) : State :=
  State.queueReport .fault s.pw.tag causeWeld
    (State.setHolds { s.pw.holds with contactorFault := true }
      (s.withPs { s.ps with setpoint := 0, drive := false, senseTimer := .stopped, weldLatch := true, contactor := .weldFault }))

/-- A failed close (R136, R137): the first with a van starts the retry wait in OPEN, the second sets the close latch. -/
def State.failedClose (s : State) : State :=
  if s.ps.closeMisses = 0 then
    s.withPs { s.ps with setpoint := 0, drive := false, senseTimer := .stopped, closeMisses := 1, retryWait := .running 5000, contactor := .isOpen }
  else s.setCloseLatch

end Sys2Proof.Machine
end

