-- ==== Sys2Proof/Machine/Policy.lean ====
section
/-! DEFINITION. The Policy Tables: one lookup, which changes nothing (R76 to R84). -/

namespace Sys2Proof.Machine

/-- What a lookup carries and reads (R77). -/
structure LookupInput where
  kind : StepKind
  late : Bool
  temperature : Option Int
  clockSet : Bool
  minute : Nat
  deriving DecidableEq, Repr

/-- What a lookup returns (R77). -/
structure PolicyAnswer where
  term : Nat
  permit : Bool
  deriving DecidableEq, Repr

/-- The policy gate: closed when the permit gate is closed or the term is 0 (R71, R81). -/
def PolicyAnswer.gateClosed (a : PolicyAnswer) : Bool := !a.permit || decide (a.term = 0)

/-- A minute lies in a window, its end not included (R76). -/
def windowHolds (w : Window) (minute : Nat) : Bool := decide (w.startMinute ≤ minute ∧ minute < w.stopMinute)

/-- The counted windows (R75). -/
def countedWindows (c : Settings) : List Window := c.windows.take c.windowCount

/-- The open entry of R78. -/
def openEntry : Markers := ⟨false, true, true⟩

/-- R78: the first case that holds; the lowest slot wins where windows overlap. -/
def applyingEntry (c : Settings) (clockSet : Bool) (minute : Nat) : Markers :=
  if c.policyEnable = false then openEntry
  else if clockSet = false then c.defaultEntry
  else if c.mapEnable = false then c.defaultEntry
  else
    match (countedWindows c).find? (fun w => windowHolds w minute) with
    | some w => w.markers
    | none => c.defaultEntry

/-- The cold index: a temperature is held and is below the warm threshold (R79). -/
def coldIndex (c : Settings) (temperature : Option Int) : Bool :=
  match temperature with
  | some t => decide (t < c.warmThreshold)
  | none => false

/-- W x 4 + L x 2 + C (R79). -/
def tableIndex (restricted late cold : Bool) : Nat := bitWeight restricted 2 + bitWeight late 1 + bitWeight cold 0

/-- The class ceiling term of a class code for a step kind (R80). -/
def classTerm (c : Settings) (code : Nat) (kind : StepKind) : Nat :=
  match code with
  | 0 => c.pBay
  | 1 => c.pBay / 2
  | 2 => c.pMin
  | 3 => if kind = .warmPack then c.pBay else c.pMin
  | _ => 0

/-- The permit gate of a step kind (R81). -/
def permitGate (m : Markers) (kind : StepKind) : Bool :=
  match kind with
  | .bulk => m.bulkPermit
  | .taper => m.bulkPermit
  | .warmPack => m.warmPermit
  | .cabin => m.warmPermit

/-- The lookup (R77 to R82). -/
def lookupPolicy (c : Settings) (i : LookupInput) : PolicyAnswer :=
  if c.policyEnable = false then ⟨c.pBay, true⟩
  else
    let m := applyingEntry c i.clockSet i.minute
    let code := c.classCodes.getD (tableIndex m.restricted i.late (coldIndex c i.temperature)) 0
    ⟨classTerm c code i.kind, permitGate m i.kind⟩

/-- The lookup an asker takes at this moment (R34, R55, R77, R83). -/
def State.lookup (kind : StepKind) (s : State) : PolicyAnswer :=
  lookupPolicy s.cfg ⟨kind, s.sc.fullUrgency, s.pl.status.map LinkStatus.temperature, s.dc.isSet, s.dc.minute⟩

end Sys2Proof.Machine
end

