-- ==== Sys2Proof/Machine/Programme.lean ====
section
/-! DEFINITION. The Programme Walker: building and walking the steps, the plan slot, and what the walker does with what the other blocks
report (R86 to R107). -/

namespace Sys2Proof.Machine

/-! ## Building -/

/-- The energy needed to raise the pack to a state of charge (R94). -/
def energyTo (soc top capacity : Nat) : Nat := if soc < top then divUp ((top - soc) * capacity) 1000 else 0

/-- The need of R94, no more than the capacity. -/
def needOf (soc target capacity : Nat) : Nat := min (energyTo soc target capacity) capacity

/-- The BULK amount of R94. -/
def bulkOf (c : Settings) (soc target capacity : Nat) : Nat := energyTo soc (min target c.taperSoc) capacity

/-- The steps of R94 before the end flag, in order, those of amount 0 left out. -/
def formSteps (c : Settings) (plan : Plan) (van : AttachedVan) (st : VanStatus) : List ProgStep :=
  let need := needOf st.soc plan.target van.capacity
  let bulk := bulkOf c st.soc plan.target van.capacity
  let warm : ProgStep := ⟨.warmPack, if st.temperature < c.warmThreshold then c.warmAllotment else 0, c.pBay, none, false, false⟩
  let fill : ProgStep := ⟨.bulk, bulk, c.pBay, none, false, false⟩
  let top : ProgStep := ⟨.taper, need - bulk, c.taperCeiling, none, false, false⟩
  let heat : ProgStep :=
    ⟨.cabin, if plan.cabin then c.cabinAllotment else 0, c.pBay, some (plan.departure - c.cabinWindow), true, false⟩
  [warm, fill, top, heat].filter (fun x => decide (x.amount ≠ 0))

/-- The last step formed has its end flag set (R94). -/
def markLast : List ProgStep → List ProgStep
  | [] => []
  | [x] => [{ x with last := true }]
  | x :: y :: rest => x :: markLast (y :: rest)

def buildSteps (c : Settings) (plan : Plan) (van : AttachedVan) (st : VanStatus) : List ProgStep :=
  markLast (formSteps c plan van st)

/-- The heater-off request of a current step whose heater mark is set (R95, R98, R101, R103). -/
def State.heaterOff (s : State) : State :=
  match s.pw.current with
  | some (p, _) => if p.heaterMark then s.placeHeater heatersOff else s
  | none => s

/-- The hold cause "policy gate closed" as a lookup or a gate report gives it (R83, R88). -/
def HoldSet.withGate (closed : Bool) (h : HoldSet) : HoldSet := { h with gateClosed := closed }

/-- A new current step: its gate looked up, a STATUS placed, and the state check (R83, R95, R101). -/
def State.enterStep (kind : StepKind) (s : State) : State :=
  let s1 := s.placeStatus
  State.stateCheck (s1.withPw { s1.pw with holds := s1.pw.holds.withGate (s1.lookup kind).gateClosed })

/-- The build completed with no steps: DONE (R95), with the STATUS that the table of R125 has the walker place at each build. R95 names none
here: DEDUCED (log 28). -/
def State.buildDone (s : State) : State :=
  let s1 := s.placeStatus
  State.queueReport .done s1.pw.tag 0
    (State.tellPower (s1.withPw { s1.pw with state := .done, steps := [], pos := none, defaultTimer := .stopped }))

/-- The build completed with steps (R95). -/
def State.buildWalk (first : ProgStep) (rest : List ProgStep) (s : State) : State :=
  State.enterStep first.kind
    (s.withPw { s.pw with steps := first :: rest, pos := some ⟨0, first.amount, 0, false, false⟩, defaultTimer := .stopped })

/-- A build from the held plan (R94, R95). -/
def State.build (plan : Plan) (van : AttachedVan) (st : VanStatus) (s : State) : State :=
  match buildSteps s.cfg plan van st with
  | [] => s.heaterOff.buildDone
  | first :: rest => s.heaterOff.buildWalk first rest

/-- The build where R93's conditions hold, and otherwise AWAITING with the plan held (R93, log 23). -/
def State.buildOrAwait (s : State) : State :=
  match s.pw.held, s.pw.van, s.pw.status, s.dc.isSet with
  | some plan, some van, some st, true => s.build plan van st
  | _, _, _, _ => State.tellPower (s.heaterOff.withPw { s.pw with state := .awaiting, steps := [], pos := none })

/-! ## The end of a step -/

/-- DONE at the step with the end flag (R101). -/
def State.finish (p : WalkerPos) (s : State) : State :=
  State.queueReport .done s.pw.tag 0
    (State.tellPower (s.withPw { s.pw with state := .done, pos := some { p with remaining := 0 } }))

/-- The step change of R101; the carry belongs to the walk and stays (R100). -/
def State.changeStep (p : WalkerPos) (nextStep : ProgStep) (s : State) : State :=
  State.enterStep nextStep.kind (s.withPw { s.pw with pos := some ⟨p.index + 1, nextStep.amount, p.carry, false, false⟩ })

/-- What follows an ended step: a rebuild from the queued revision, DONE, or a step change (R101). -/
def State.afterStep (p : WalkerPos) (st : ProgStep) (s : State) : State :=
  match s.pw.revision with
  | some plan => State.buildOrAwait (s.withPw { s.pw with held := some plan, revision := none })
  | none =>
    if st.last then s.finish p
    else
      match s.pw.steps[p.index + 1]? with
      | some nextStep => s.changeStep p nextStep
      | none => s.finish p

/-- The current step ends (R101). `refusal` is set where the refusal report of R104 stands in place of item 2. -/
def State.endStep (refusal : Bool) (s : State) : State :=
  match s.pw.current with
  | none => s
  | some (p, st) =>
    let s1 := s.heaterOff
    let s2 := if st.notify && !refusal then s1.queueReport .stepEnd s1.pw.tag (stepEndDetail st.kind false) else s1
    s2.afterStep p st

/-! ## What the other blocks report -/

/-- A minute roll event (R27, R87), and the clock set event, which builds where a plan waits in AWAITING (R93). -/
def State.minuteRoll (clockSet : Bool) (s : State) : State :=
  if clockSet = true ∧ s.pw.state = .awaiting ∧ s.pw.held.isSome = true ∧ s.pw.status.isSome = true then s.buildOrAwait
  else if s.pw.state.walking then s.stateCheck
  else s

/-- A gate report of the Share Computer (R71, R87, R88). -/
def State.gateReport (closed : Bool) (s : State) : State := s.setHolds (s.pw.holds.withGate closed)

/-- The programme, the position and the plan slot cleared (R91, R92). -/
def Walker.clearPlans (pw : Walker) : Walker :=
  { pw with
    held := none, revision := none, cancelled := none, steps := [], pos := none, defaultTimer := .stopped,
    holds := { pw.holds with gateClosed := false, linkLost := false } }

/-- A fresh arrival (R89). -/
def State.freshArrival (tag : VanTag) (capacity : Nat) (s : State) : State :=
  let pw : Walker := { s.pw with
    state := .awaiting, van := some ⟨tag, capacity⟩, status := none, delivered := 0, defaultTimer := .running 300000,
    holds := { s.pw.holds with linkLost := false } }
  State.queueReport .arrival tag 0 (State.placeStatus (State.tellPower (s.withPw pw)))

/-- A van identified, PW EMPTY (R89); elsewhere PW does nothing with it (log 25). -/
def State.vanIdentified (tag : VanTag) (capacity : Nat) (s : State) : State :=
  if s.pw.state = .empty then s.freshArrival tag capacity else s

/-- The link regained with a different van (R91): DEPARTED for the old van, EMPTY, and at once a fresh arrival. -/
def State.differentVan (tag : VanTag) (capacity : Nat) (s : State) : State :=
  if s.pw.state = .empty then s.freshArrival tag capacity
  else
    let s1 := s.queueReport .departed s.pw.tag s.pw.delivered
    let pw : Walker := { s1.pw.clearPlans with state := .empty, van := none, status := none }
    State.freshArrival tag capacity (State.tellPower (s1.withPw pw))

/-- The link regained with the same van (R91). -/
def State.sameVan (s : State) : State :=
  State.setHolds { s.pw.holds with linkLost := false } s.placeStatus

/-- The link LOST (R91). -/
def State.linkLostReport (s : State) : State :=
  if s.pw.van.isSome then s.setHolds { s.pw.holds with linkLost := true } else s

/-- The plug removed (R92). -/
def State.walkerPlugRemoved (s : State) : State :=
  let s1 := if s.pw.state = .empty then s else s.queueReport .departed s.pw.tag s.pw.delivered
  State.tellPower (s1.withPw { s1.pw.clearPlans with state := .empty, van := none, status := none })

/-- A pack temperature that ends a WARM-PACK step (R102). -/
def State.warmEnds (temperature : Int) (s : State) : Bool :=
  match s.pw.current with
  | some (_, st) => decide (st.kind = .warmPack ∧ s.cfg.warmThreshold + 2 ≤ temperature)
  | none => false

/-- A VALID STATUS taken by the walker (R90, R102). It ends a WARM-PACK step that a rebuild at the end of the same moment has formed anew:
DESIGN CHOICE (log 32). -/
def State.takeStatus (soc : Nat) (temperature : Int) (s : State) : State :=
  if s.pw.van.isSome then
    let s1 := s.withPw { s.pw with status := some ⟨soc, temperature⟩ }
    if s1.pw.state = .awaiting then
      if s1.pw.held.isSome && s1.dc.isSet then s1.buildOrAwait else s1
    else if s1.warmEnds temperature then s1.endStep false
    else s1
  else s

/-- The refused request asked for the heater of the current step (R104). -/
def ProgStep.refusedBy (h : Heaters) (st : ProgStep) : Bool :=
  match st.kind with
  | .warmPack => h.pack
  | .cabin => h.cabin
  | _ => false

/-- A HEATER refusal reported to the walker (R104). -/
def State.heaterRefused (h : Heaters) (s : State) : State :=
  match s.pw.current with
  | some (_, st) =>
    if st.refusedBy h then
      State.endStep true (s.queueReport .stepEnd s.pw.tag (stepEndDetail st.kind true))
    else s
  | none => s

/-- An energy pulse (R100). -/
def State.countPulse (s : State) : State :=
  match s.pw.current with
  | none => s
  | some (p, _) =>
    if p.carry + 1 < 100 then s.withPw { s.pw with pos := some { p with carry := p.carry + 1 } }
    else
      let s1 := s.withPw { s.pw with
        pos := some { p with carry := 0, remaining := p.remaining - 1 }, delivered := raiseTo 65535 s.pw.delivered }
      if p.remaining - 1 = 0 then s1.endStep false else s1

/-! ## Plans -/

/-- A serial that is not newer than an optional plan's. -/
def notNewer (serial : Nat) (p : Option Plan) : Bool :=
  match p with
  | some q => decide (serial ≤ q.serial)
  | none => false

/-- What R96 makes of a plan. -/
inductive PlanVerdict where
  | ignored
  | refusedMinute
  | taken
  deriving DecidableEq, Repr

/-- R96: the first case that applies decides. -/
def Walker.judgePlan (plan : Plan) (pw : Walker) : PlanVerdict :=
  if pw.state = .empty ∨ pw.van.map AttachedVan.tag ≠ some plan.tag then .ignored
  else if 1440 ≤ plan.departure then .refusedMinute
  else if pw.state ≠ .aborted then
    if notNewer plan.serial pw.held || notNewer plan.serial pw.revision then .ignored else .taken
  else
    match pw.cancelled with
    | some c => if plan.serial ≤ c then .ignored else .taken
    | none => .taken

/-- A plan taken (R97): queued as a revision while RUNNING, and otherwise held and built. -/
def State.takePlan (plan : Plan) (s : State) : State :=
  let kept : Plan := { plan with target := min plan.target 1000 }
  let report := State.queueReport .planTaken s.pw.tag plan.serial
  if s.pw.state = .running then report (s.withPw { s.pw with revision := some kept })
  else
    State.buildOrAwait
      (report (s.withPw { s.pw with held := some kept, revision := none, cancelled := none, defaultTimer := .stopped }))

/-- An accepted PLAN at the walker (R96, R97). -/
def State.judgePlan (plan : Plan) (s : State) : State :=
  match s.pw.judgePlan plan with
  | .ignored => s
  | .refusedMinute => s.queueReport .planRefused s.pw.tag plan.serial
  | .taken => s.takePlan plan

/-- A CANCEL is taken (R98). Right after a step end that applied a revision of a higher serial it is ignored by R98, where R108 has it abort
the state that results: DESIGN CHOICE (log 32). -/
def Walker.takesCancel (tag : VanTag) (serial : Nat) (pw : Walker) : Bool :=
  match pw.held with
  | some plan => decide (pw.van.map AttachedVan.tag = some tag ∧ plan.serial ≤ serial)
  | none => false

/-- An accepted CANCEL at the walker (R98). -/
def State.takeCancel (tag : VanTag) (serial : Nat) (s : State) : State :=
  if s.pw.takesCancel tag serial then
    let s1 := s.heaterOff
    let pw : Walker := { s1.pw with
      state := .aborted, held := none, revision := none, cancelled := some serial, steps := [], pos := none,
      defaultTimer := .stopped, holds := s1.pw.holds.withGate false }
    State.queueReport .cancelled s.pw.tag 0 (State.tellPower (s1.withPw pw))
  else s

/-- The default plan of the image for the attached van (R99). -/
def defaultPlan (c : Settings) (tag : VanTag) : Plan := ⟨tag, 0, c.defaultDeparture, c.defaultTarget, c.defaultCabin⟩

/-- The default plan adopted (R99). -/
def State.adoptDefault (s : State) : State :=
  State.buildOrAwait
    (State.queueReport .planTaken s.pw.tag 0
      (s.withPw { s.pw with held := some (defaultPlan s.cfg s.pw.tag), defaultTimer := .stopped }))

/-! ## What the Share Computer reads (R105) -/

/-- The amounts of the steps after the current one that pass a test. -/
def laterAmounts (pw : Walker) (p : WalkerPos) (keep : ProgStep → Bool) : Nat :=
  (((pw.steps.drop (p.index + 1)).filter keep).map ProgStep.amount).sum

def ProgStep.notCabin (st : ProgStep) : Bool := decide (st.kind ≠ .cabin)

/-- E_need (R105). -/
def Walker.energyNeed (pw : Walker) : Nat :=
  match pw.current with
  | none => 0
  | some (p, st) => if st.kind = .cabin then min p.remaining 3000 else min (p.remaining + laterAmounts pw p ProgStep.notCabin) 3000

/-- The deadline minute (R105). -/
def Walker.deadline (pw : Walker) : Nat :=
  match pw.current with
  | none => 0
  | some (_, st) =>
    let departure := (pw.held.map Plan.departure).getD 0
    if st.kind = .cabin then departure
    else
      match pw.steps.find? (fun x => decide (x.kind = .cabin)) with
      | some heat => heat.notBefore.getD departure
      | none => departure

/-- The total remaining energy of unfinished steps (R105). -/
def Walker.totalRemaining (pw : Walker) : Nat :=
  match pw.current with
  | none => 0
  | some (p, _) => min (p.remaining + laterAmounts pw p (fun _ => true)) 3000

/-- An at-risk notice (R106). -/
def State.atRiskNotice (forecast : Nat) (s : State) : State := s.queueReport .atRisk s.pw.tag forecast

end Sys2Proof.Machine
end

