-- ==== Sys2Proof/Machine/Clock.lean ====
section
/-! DEFINITION. The Depot Clock: offered times, adoption and minute rolls (R26 to R32); the meanings of OSCILLATOR_SECOND and
ANCHOR_LAPSE. -/

namespace Sys2Proof.Machine

def secondsPerDay : Nat := 86400

/-- A time field that is offered: 0 to 86399 (R28). -/
def timeOffered (t : Nat) : Bool := decide (t < secondsPerDay)

/-- d of R29: the offered time minus the own time, taken into 0 to 86399. -/
def aheadBy (offered own : Nat) : Nat := (offered + secondsPerDay - own) % secondsPerDay

/-- The distance of R29, the short way round the day. -/
def clockDistance (offered own : Nat) : Nat :=
  if aheadBy offered own ≤ 43200 then aheadBy offered own else secondsPerDay - aheadBy offered own

/-- The clock takes a time, and the minute roll event goes to the walker where R27 calls for one. `next` is the clock after. An adoption out of
UNSET that lands in minute 0, the minute before, issues the clock set event by R27's table, though a sentence below it has no event for an
adoption in the same minute: DESIGN CHOICE (log 30). -/
def State.moveClock (next : DepotClock) (s : State) : State :=
  let s1 := s.withDc next
  if s.dc.source = .unset then (if next.source = .unset then s1 else s1.minuteRoll true)
  else if next.minute = s.dc.minute then s1
  else s1.minuteRoll false

/-- The adoption of an offered time, with the source and anchor age its rule gives (R31). -/
def State.adoptTime (t : Nat) (source : ClockSource) (age : Nat) (s : State) : State :=
  s.moveClock ⟨t, 0, source, age⟩

/-- An anchor offered (R28, R29). -/
def State.offerAnchor (t : Nat) (s : State) : State :=
  if timeOffered t then
    if s.dc.source = .unset ∨ 2 ≤ clockDistance t s.dc.time then s.adoptTime t .anchored 0
    else s.withDc { s.dc with source := .anchored, anchorAge := 0 }
  else s

/-- A peer time offered (R28, R30). -/
def State.offerPeerTime (t : Nat) (s : State) : State :=
  if timeOffered t then
    match s.dc.source with
    | .unset => s.adoptTime t .peer s.dc.anchorAge
    | .peer => if 1 ≤ aheadBy t s.dc.time ∧ aheadBy t s.dc.time ≤ 43200 then s.adoptTime t .peer s.dc.anchorAge else s
    | .anchored => s
  else s

/-- The age an oscillator second leaves; it stays at 600 once there (R26, R32). -/
def DepotClock.agedBySecond (dc : DepotClock) : Nat :=
  if dc.source = .anchored then raiseTo 600 dc.anchorAge else dc.anchorAge

/-- OSCILLATOR_SECOND (R26, R27): a SET clock advances with wrap, and an ANCHORED one raises the anchor age. -/
def execOscillatorSecond (s : State) : Answer :=
  .next (if s.dc.isSet then
    State.settleLink (s.moveClock ⟨(s.dc.time + 1) % secondsPerDay, 0, s.dc.source, s.dc.agedBySecond⟩)
  else s)

/-- ANCHOR_LAPSE (R32). -/
def execAnchorLapse (s : State) : Answer :=
  .next (if s.dc.source = .anchored ∧ 600 ≤ s.dc.anchorAge then s.withDc { s.dc with source := .peer } else s)

end Sys2Proof.Machine
end

