-- ==== Sys2Proof/Machine/View.lean ====
section
/-! DEFINITION. The Peer View: adjusting, ordering, inserting, evicting and aging entries, the id conflict, and the snapshot (R35 to R51);
the meanings of CONFLICT_REPORT_GUARD_EXPIRY and TALLY_EXPIRY. -/

namespace Sys2Proof.Machine

/-- A CLAIM's fields put into the entry's range, LIVE at age 0 (R35, R40, R41). -/
def peerEntryOf (c : RxClaim) : PeerEntry :=
  let ceiling := min c.ceiling 9999
  { id := c.sender,
    floor := if ceiling = 0 then 0 else min (min c.floor 9999) ceiling,
    ceiling := ceiling,
    urgency := if ceiling = 0 then 0 else min c.urgency 1000,
    draw := min c.draw 9999,
    age := 0,
    stale := false }

/-- The order of R36: urgency descending, then station id ascending. -/
def standsBefore (u1 id1 u2 id2 : Nat) : Bool := decide (u2 < u1 ∨ (u1 = u2 ∧ id1 < id2))

/-- An entry put in at its place (R37). -/
def placeEntry (e : PeerEntry) : List PeerEntry → List PeerEntry
  | [] => [e]
  | x :: xs => if standsBefore x.urgency x.id e.urgency e.id then x :: placeEntry e xs else e :: x :: xs

def dropId (id : Nat) (l : List PeerEntry) : List PeerEntry := l.filter (fun x => decide (x.id ≠ id))

/-- Whether R42 prefers evicting `a` to `b`: the greater age, and the higher station id among equal ages. -/
def evictBefore (a b : PeerEntry) : Bool := decide (b.age < a.age ∨ (a.age = b.age ∧ b.id < a.id))

/-- The STALE entry R42 evicts, where there is one. -/
def evictee : List PeerEntry → Option PeerEntry
  | [] => none
  | x :: xs =>
    match evictee xs with
    | none => if x.stale then some x else none
    | some y => if x.stale && evictBefore x y then some x else some y

/-- A CLAIM from another station taken into the view (R40 to R43). -/
def PeerView.takeClaim (c : RxClaim) (pv : PeerView) : PeerView :=
  let e := peerEntryOf c
  if pv.entries.any (fun x => decide (x.id = c.sender)) then { pv with entries := placeEntry e (dropId c.sender pv.entries) }
  else if pv.entries.length < 48 then { pv with entries := placeEntry e pv.entries }
  else
    match evictee pv.entries with
    | some old => { pv with entries := placeEntry e (dropId old.id pv.entries) }
    | none => { pv with unlistedDraw := min (pv.unlistedDraw + e.draw) 9999 }

/-- A CLAIM bearing the own id (R38, R39, R68): the conflict hold set to 15, and a report where the guard is stopped. -/
def State.idConflict (s : State) : State :=
  let s1 := s.withSc { s.sc with conflictHold := 15 }
  if s1.pv.conflictGuard.isRunning then s1
  else State.queueReport .fault s1.pw.tag causeIdConflict (s1.withPv { s1.pv with conflictGuard := .running 60000 })

/-- A CLAIM handed to the view (R38 to R43). -/
def State.viewClaim (c : RxClaim) (s : State) : State :=
  if c.sender = s.sl.stationId then s.idConflict else s.withPv (s.pv.takeClaim c)

/-- An entry one tally period older (R44). -/
def PeerEntry.older (e : PeerEntry) : PeerEntry := { e with age := e.age + 1, stale := if e.age + 1 = 3 then true else e.stale }

/-- A tally expiry: all entries age, and those at age 8 are removed (R44). -/
def ageEntries (l : List PeerEntry) : List PeerEntry := (l.map PeerEntry.older).filter (fun e => decide (e.age < 8))

/-- TALLY_EXPIRY (R44). -/
def execTallyExpiry (s : State) : Answer :=
  .next (if s.pv.tallyTimer.isRunning then
    s.withPv { s.pv with entries := ageEntries s.pv.entries, tallyTimer := .running 4000 }
  else s)

/-- CONFLICT_REPORT_GUARD_EXPIRY (R39). -/
def execConflictReportGuardExpiry (s : State) : Answer :=
  .next (if s.pv.conflictGuard.isRunning then s.withPv { s.pv with conflictGuard := .stopped } else s)

/-- A claimant in the share arithmetic (R48, R64). -/
structure Claimant where
  id : Nat
  floor : Nat
  ceiling : Nat
  urgency : Nat
  deriving DecidableEq, Repr

/-- The snapshot of R48. -/
structure ViewSnapshot where
  claimants : List Claimant
  nonClaimantDraw : Nat
  staleDraw : Nat
  unlistedDraw : Nat
  deriving DecidableEq, Repr

def PeerEntry.claimant (e : PeerEntry) : Bool := !e.stale && decide (0 < e.ceiling)

def drawSum (keep : PeerEntry → Bool) (l : List PeerEntry) : Nat := ((l.filter keep).map PeerEntry.draw).sum

/-- R48; clearing the accumulator belongs to the read (`PeerView.clearUnlisted`). -/
def PeerView.snapshot (pv : PeerView) : ViewSnapshot where
  claimants := (pv.entries.filter PeerEntry.claimant).map (fun e => ⟨e.id, e.floor, e.ceiling, e.urgency⟩)
  nonClaimantDraw := drawSum (fun e => !e.stale && decide (e.ceiling = 0)) pv.entries
  staleDraw := drawSum PeerEntry.stale pv.entries
  unlistedDraw := pv.unlistedDraw

/-- The read sets the accumulator to 0 (R47, R48). -/
def PeerView.clearUnlisted (pv : PeerView) : PeerView := { pv with unlistedDraw := 0 }

end Sys2Proof.Machine
end

