-- ==== Sys2Proof/Machine/Share.lean ====
section
/-! DEFINITION. The Share Computer's arithmetic and the meaning of CLAIM_PERIOD_EXPIRY (R54 to R74), with the share posting at Power
Stage Control (R130). -/

namespace Sys2Proof.Machine

/-! ## The own claim -/

/-- t_left of R57. -/
def timeLeft (deadline now : Nat) : Nat := deadline - now

/-- P_req of R57. -/
def requiredPower (energy left : Nat) : Nat :=
  if energy = 0 then 0 else if left = 0 then 9999 else min (divUp (energy * 60) left) 9999

/-- The ceiling m of R56. `policy` is the lookup for the current step kind. -/
def ownCeiling (c : Settings) (state : ProgState) (accept stepCeiling : Nat) (policy : PolicyAnswer) : Nat :=
  if state ≠ .running then 0
  else
    let m := min (min c.pBay accept) (min stepCeiling (if policy.permit then policy.term else 0))
    if m < c.pMin then 0 else m

/-- The floor and urgency of a claimant (R58). -/
def claimFloor (pMin m required : Nat) : Nat := min (max required pMin) m
def claimUrgency (m required : Nat) : Nat := min (divUp (required * 1000) m) 1000

/-- The at-risk flag (R59). -/
def atRiskNow (sc : ShareComputer) (urgency : Nat) : Bool :=
  decide (urgency = 1000) || (sc.prevClaimant && decide (sc.lastPosted < sc.prevFloor))

/-- The own claim of an expiry (R58, R59). -/
def ownClaimOf (c : Settings) (sc : ShareComputer) (clockSet : Bool) (m required : Nat) : OwnClaim :=
  if clockSet = false ∨ 0 < sc.conflictHold ∨ m = 0 ∨ required = 0 then .nonClaimant (atRiskNow sc 0)
  else ⟨true, claimFloor c.pMin m required, m, claimUrgency m required, atRiskNow sc (claimUrgency m required)⟩

/-! ## Budget and shares -/

/-- The margin of R63, as the shed also forms it (R133). -/
def marginOf (c : Settings) : Nat := c.cap * c.marginPermille / 1000

/-- The building load of R62. -/
def buildingLoad (c : Settings) (sc : ShareComputer) : Nat :=
  if 0 < sc.freshness then sc.siteLoad.getD c.fallbackLoad else c.fallbackLoad

/-- The budget B of R63; a result below 0 is 0. -/
def budgetOf (c : Settings) (sc : ShareComputer) (v : ViewSnapshot) : Nat :=
  c.cap - (marginOf c + buildingLoad c sc + v.nonClaimantDraw + v.staleDraw + v.unlistedDraw)

/-- The own claim added at its place by the order of R36 (R64). -/
def placeClaimant (own : Claimant) : List Claimant → List Claimant
  | [] => [own]
  | x :: xs => if standsBefore x.urgency x.id own.urgency own.id then x :: placeClaimant own xs else own :: x :: xs

def floorSum (l : List Claimant) : Nat := (l.map Claimant.floor).sum
def headroomSum (l : List Claimant) : Nat := (l.map (fun x => x.ceiling - x.floor)).sum

/-- The share of Case A (R65). -/
def shareWhenEnough (budget : Nat) (own : Claimant) (l : List Claimant) : Nat :=
  let extra := if headroomSum l = 0 then 0 else (budget - floorSum l) * (own.ceiling - own.floor) / headroomSum l
  min (own.floor + extra) own.ceiling

/-- The grant the walk of Case B leaves the station `id` (R66). -/
def walkGrant (id : Nat) : List Claimant → Nat → Nat
  | [], _ => 0
  | x :: xs, left => if x.id = id then min x.floor left else walkGrant id xs (left - min x.floor left)

/-- The share of Case B, with the own P_min correction (R66). -/
def shareInShortfall (pMin budget : Nat) (own : Claimant) (l : List Claimant) : Nat :=
  if walkGrant own.id l budget < pMin then 0 else walkGrant own.id l budget

/-- The own share (R64 to R66). -/
def ownShare (c : Settings) (own : OwnClaim) (budget : Nat) (peers : List Claimant) : Nat :=
  if own.claimant then
    let me : Claimant := ⟨c.stationId, own.floor, own.ceiling, own.urgency⟩
    let l := placeClaimant me peers
    if floorSum l ≤ budget then shareWhenEnough budget me l else shareInShortfall c.pMin budget me l
  else 0

/-! ## The posting at Power Stage Control -/

/-- The setpoint the cases of R130 give, before the accept limit. -/
def postedSetpoint (c : Settings) (share : Nat) (ps : PowerStage) : Nat :=
  if ps.contactor ≠ .isClosed ∨ ps.meterLost = true then 0
  else if share < ps.setpoint then share
  else if ps.setpoint < share ∧ ps.shedHold = 0 then
    if ps.setpoint = 0 then min share (max c.pMin c.rampStep) else min share (ps.setpoint + c.rampStep)
  else ps.setpoint

/-- A share posting (R130), under the limit as it stands then; R134 on a limit raised at the same moment: DESIGN CHOICE (log 29). -/
def PowerStage.takePosting (c : Settings) (share : Nat) (ps : PowerStage) : PowerStage :=
  { ps with
    target := share,
    setpoint := limitSetpoint c.pMin ps.acceptLimit (postedSetpoint c share ps),
    shedHold := ps.shedHold - 1 }

/-! ## The expiry -/

/-- The draw field of the CLAIM (R73). -/
def claimDraw (sc : ShareComputer) (ps : PowerStage) : Nat :=
  if ps.meterLost then sc.lastGoodCeiling else if ps.updateTaken then ps.draw else 0

/-- The readiness forecast (R72). -/
def forecastOf (clockSet : Bool) (now total setpoint : Nat) : Nat :=
  if clockSet = false ∨ setpoint = 0 then 0xFFFF else min (now + divUp (total * 60) setpoint) 1439

/-- The lookup stage 1 takes where the programme has a current step (R55). -/
def State.currentLookup (s : State) : Option PolicyAnswer :=
  match s.pw.current with
  | some (_, st) => some (s.lookup st.kind)
  | none => none

/-- The current step's ceiling, 0 where there is none (R55, R105). -/
def Walker.stepCeiling (pw : Walker) : Nat :=
  match pw.current with
  | some (_, st) => st.ceiling
  | none => 0

/-- The ceiling m of this expiry, from what stage 1 reads (R55, R56). -/
def State.expiryCeiling (s : State) : Nat :=
  ownCeiling s.cfg s.pw.state s.pl.accept s.pw.stepCeiling (s.currentLookup.getD ⟨0, false⟩)

/-- P_req of this expiry (R55, R57). -/
def State.expiryRequired (s : State) : Nat :=
  requiredPower s.pw.energyNeed (timeLeft s.pw.deadline s.dc.minute)

/-- The own claim of this expiry (R55 to R59). -/
def State.expiryClaim (s : State) : OwnClaim :=
  ownClaimOf s.cfg s.sc s.dc.isSet s.expiryCeiling s.expiryRequired

/-- The share this expiry posts (R63 to R66). -/
def State.expiryShare (s : State) : Nat :=
  ownShare s.cfg s.expiryClaim (budgetOf s.cfg s.sc s.pv.snapshot) s.pv.snapshot.claimants

/-- The CLAIM this expiry builds (R74); `setpoint` is the one read at stage 6. -/
def State.expiryContents (setpoint : Nat) (s : State) : ClaimContents where
  time := s.dc.claimTime
  floor := s.expiryClaim.floor
  ceiling := s.expiryClaim.ceiling
  urgency := s.expiryClaim.urgency
  draw := claimDraw s.sc s.ps
  forecast := forecastOf s.dc.isSet s.dc.minute s.pw.totalRemaining setpoint
  atRisk := s.expiryClaim.atRisk

/-- Stage 7 (R60, R62, R68), with the claim of stage 2 and the timer running on (R53). Which ceiling is the last good one: the m of R60,
which stays above 0 where the conflict hold makes the CLAIM a non-claimant with ceiling 0: DESIGN CHOICE (log 33). -/
def State.expiryStore (s : State) : ShareComputer :=
  { s.sc with
    claimTimer := .running 4000,
    own := s.expiryClaim,
    prevClaimant := s.expiryClaim.claimant,
    prevFloor := s.expiryClaim.floor,
    fullUrgency := decide (s.expiryClaim.urgency = 1000),
    lastPosted := s.expiryShare,
    freshness := s.sc.freshness - 1,
    conflictHold := s.sc.conflictHold - 1,
    lastGoodCeiling := if s.ps.meterLost then s.sc.lastGoodCeiling else s.expiryCeiling }

/-- The gate report of stage 5, made where the programme has a current step (R71). -/
def State.expiryGate (policy : Option PolicyAnswer) (s : State) : State :=
  match policy with
  | some a => s.gateReport a.gateClosed
  | none => s

/-- Stages 4 and 5: the read clears the accumulator, the share is posted, the gate reported (R48, R70, R71). -/
def State.expiryPosted (s : State) : State :=
  State.expiryGate s.currentLookup
    ((s.withPv s.pv.clearUnlisted).withPs (s.ps.takePosting s.cfg s.expiryShare))

/-- Stage 6: the CLAIM queued, and the at-risk notice where the flag has turned on (R74, R106). -/
def State.expiryAnnounce (contents : ClaimContents) (turnedOn : Bool) (s : State) : State :=
  let s1 := s.enqueue (.claim contents)
  if turnedOn then s1.atRiskNotice contents.forecast else s1

/-- One computation of the Share Computer, taken whole (R54). -/
def State.claimPeriod (s : State) : State :=
  let posted := s.expiryPosted
  let announced := posted.expiryAnnounce (s.expiryContents posted.ps.setpoint) (s.expiryClaim.atRisk && !s.sc.own.atRisk)
  announced.withSc s.expiryStore

/-- CLAIM_PERIOD_EXPIRY (R53, R54). -/
def execClaimPeriodExpiry (s : State) : Answer :=
  .next (if s.sc.claimTimer.isRunning then s.claimPeriod.settleLink else s)

end Sys2Proof.Machine
end

