-- ==== Sys2Proof/Machine/StartUp.lean ====
section
/-! DEFINITION. Power-on reset and the commissioning image: the meanings of POWER_UP, BROWN_OUT and IMAGE_READ_COMPLETE (R140, R146 to
R152). -/

namespace Sys2Proof.Machine

/-- The weld check of R140, with the drive off: a sense reading closed sets the weld latch. -/
def PowerStage.weldCheck (senseClosed : Bool) (ps : PowerStage) : PowerStage :=
  { ps with
    senseClosed := senseClosed,
    weldLatch := senseClosed,
    contactor := if senseClosed then .weldFault else .isOpen }

/-- The power-on reset common to both supply events (R146), the weld check and what the walker is told of it (R85, R140). -/
def powerOn (brownOut senseClosed : Bool) (waiting : List Instr) : State :=
  { State.reset with
    sl := { StartUp.reset with brownOut := brownOut },
    pw := { Walker.reset with holds := { Walker.reset.holds with contactorFault := senseClosed } },
    ps := PowerStage.reset.weldCheck senseClosed,
    pending := waiting }

/-- POWER_UP (R146): the brown-out flag is cleared. -/
def execPowerUp (senseClosed : Bool) (s : State) : Answer := .next (powerOn false senseClosed s.pending)

/-- BROWN_OUT (R146, R152): the brown-out flag is set. -/
def execBrownOut (senseClosed : Bool) (s : State) : Answer := .next (powerOn true senseClosed s.pending)

/-- The read is over: the memory deselected, the station id as read (R147, R150). -/
def StartUp.afterRead (config : ConfigState) (stationId : Nat) (sl : StartUp) : StartUp :=
  { sl with config := config, stationId := stationId, memorySelected := false }

/-- The first sample of the plug contact, and the debounce from OPEN (R110, R111). -/
def PlugLink.firstSample (contactClosed : Bool) (pl : PlugLink) : PlugLink :=
  { pl with contact := some contactClosed, settle := if contactClosed then .running 100 else .stopped }

/-- The acceptance of an image (R149): every block starts its own work, and a weld found at power-on is reported. The recessive count starts
at 0 as LOADING is left: DESIGN CHOICE (log 5). -/
def State.enterActive (c : Settings) (contactClosed : Bool) (s : State) : State :=
  let started : State := { s with
    sl := s.sl.afterRead .active c.stationId,
    cfg := c,
    li := s.li.enterGap 0,
    sc := { s.sc with claimTimer := .running (c.stationId % 8 * 500) },
    pv := { s.pv with tallyTimer := .running 4000 },
    pl := s.pl.firstSample contactClosed,
    ps := PowerStage.judge true { s.ps with updateAge := some 0 } }
  if started.ps.weldLatch then started.queueReport .fault started.pw.tag causeWeld else started

/-- The rejection of an image (R150). The recessive count starts at 0 as LOADING is left: DESIGN CHOICE (log 5). -/
def State.enterConfigFault (stationId : Nat) (s : State) : State :=
  { s with sl := s.sl.afterRead .configFault stationId, li := s.li.enterGap 0 }

/-- The image in its 96 bytes is judged at once (R147, R148): accepted or rejected. -/
def State.judgeImage (image : List Byte) (contactClosed : Bool) (s : State) : State :=
  if imageValid (readImage image) then s.enterActive (readImage image) contactClosed
  else s.enterConfigFault (readImage image).stationId

/-- IMAGE_READ_COMPLETE (R147 to R150): the 96 bytes are formed from the serial bits sampled. -/
def execImageReadComplete (bits : List Bool) (contactClosed : Bool) (s : State) : Answer :=
  .next (if s.loading = true ∧ bits.length = 8 * 96 then s.judgeImage (serialBytes 96 bits) contactClosed else s)

end Sys2Proof.Machine
end

