-- ==== Sys2Proof/Machine/LineSend.lean ====
section
/-! DEFINITION. Sending on the depot line: the frame gap, attempts, arbitration, mismatch, and frames sent whole (R5, R16 to R23). While the
configuration state is LOADING the Line Interface takes no notice of the line (R24). -/

namespace Sys2Proof.Machine

/-- A command of the line that can arise: the part takes notice of the line (R24) and the line is in this state. -/
def State.lineIs (l : LineState) (s : State) : Bool := !s.loading && decide (s.li.line = l)

/-- The entry with an attempt on the line. -/
def sentEntry (q : List QueueEntry) : Option QueueEntry := q.find? QueueEntry.onLine

/-- FRAME_GAP_COMPLETE (R5, R16); a line held dominant has no frame gap (R4). -/
def execFrameGapComplete (s : State) : Answer :=
  .next (if s.lineIs .gap && !s.li.stuck then State.trySend (s.withLi { s.li with line := .idle, recessive := 11 }) else s)

/-- DOMINANT_LEVEL_IN_GAP (R5): the recessive count restarts from zero. -/
def execDominantLevelInGap (s : State) : Answer :=
  .next (if s.lineIs .gap then s.withLi { s.li with recessive := 0 } else s)

/-- JOIN_FOREIGN_START (R16): joined where the four conditions hold, and otherwise the part receives. -/
def execJoinForeignStart (s : State) : Answer :=
  .next (if s.lineIs .idle then
    if s.maySend then s.beginAttempt else s.withLi { s.li with line := .receiving, rxBuffer := [] }
  else s)

/-- An entry whose sending was cut: it is off the line, and its next attempt takes its contents as they stand (R20, R21). -/
def QueueEntry.offLine (e : QueueEntry) : QueueEntry := { e with onLine := false, replaced := false }

/-- ARBITRATION_LOSS (R17): the winner's header is being received; the part stops driving, and the own frame keeps its place and its
retry count. -/
def execArbitrationLoss (s : State) : Answer :=
  .next (if s.lineIs .sending then
    s.withLi { s.li with line := .receiving, rxBuffer := [], queue := s.li.queue.map QueueEntry.offLine, output := .recessive }
  else s)

/-- The entry after a transmit mismatch: one retry more, removed at 3 (R18). -/
def mismatchEntry (e : QueueEntry) : Option QueueEntry :=
  if e.onLine then (if 3 ≤ e.retries + 1 then none else some { e.offLine with retries := e.retries + 1 }) else some e

/-- The mismatch is the third of the frame on the line (R18). -/
def thirdMismatch (q : List QueueEntry) : Bool := q.any (fun e => e.onLine && decide (3 ≤ e.retries + 1))

/-- TRANSMIT_MISMATCH (R18): the part's line clear of 24 bit times, the line released, GAP, and the retry count. -/
def execTransmitMismatch (s : State) : Answer :=
  .next (if s.lineIs .sending then
    s.withLi { s.li.enterGap 0 with
      queue := s.li.queue.filterMap mismatchEntry,
      errors := { s.li.errors with txMismatch := s.li.errors.txMismatch || thirdMismatch s.li.queue },
      output := .recessive, clearDriven := 24 }
  else s)

/-- The entry after its frame was sent whole: gone, or a CLAIM replaced meanwhile, in its newer contents (R19, R21). -/
def sentWholeEntry (e : QueueEntry) : Option QueueEntry :=
  if e.onLine then (if e.replaced then some e.offLine else none) else some e

/-- The recessive bit times the line has had when the part has driven its last bit (R1, R5, log 5). -/
def LineOutput.recessiveEnd : LineOutput → Nat
  | .frame levels => recessiveRun levels
  | .recessive => 0

/-- FRAME_SENT_WHOLE (R19): an own frame other than DIAG. -/
def execFrameSentWhole (s : State) : Answer :=
  .next (if s.lineIs .sending && (sentEntry s.li.queue).any (fun e => !e.isDiag) then
    s.withLi { (s.li.enterGap s.li.output.recessiveEnd).raiseValid with
      queue := s.li.queue.filterMap sentWholeEntry, output := .recessive }
  else s)

/-- DIAG_SENT_WHOLE (R22): counts 0, flags and line-stuck seen clear, the brown-out flag cleared (R151), the DIAG out of the queue. -/
def execDiagSentWhole (s : State) : Answer :=
  .next (if s.lineIs .sending && (sentEntry s.li.queue).any QueueEntry.isDiag then
    (s.withLi { s.li.enterGap s.li.output.recessiveEnd with
      queue := s.li.queue.filterMap sentWholeEntry,
      validCount := 0, discardCount := 0, errors := .clear, stuckSeen := false,
      output := .recessive }).withSl { s.sl with brownOut := false }
  else s)

end Sys2Proof.Machine
end

