-- ==== Sys2Proof/Machine/LineReceive.lean ====
section
/-! DEFINITION. Receiving on the depot line: line clear and line stuck, the bytes of a frame, and the receive checks (R2 to R4, R9 to R13). -/

namespace Sys2Proof.Machine

/-- LINE_CLEAR (R3): the partial frame is dropped, CLEAR-IN-FRAME set where its header had been taken; it cannot be met in SENDING. -/
def execLineClear (s : State) : Answer :=
  .next (if s.loading || decide (s.li.line = .sending) then s
  else
    let cut := decide (s.li.line = .receiving) && !s.li.rxBuffer.isEmpty
    s.withLi { s.li.enterGap 0 with errors := { s.li.errors with clearInFrame := s.li.errors.clearInFrame || cut } })

/-- LINE_STUCK (R4); like the line clear before it in the same run, it cannot be met in SENDING (R3). -/
def execLineStuck (s : State) : Answer :=
  .next (if s.loading || decide (s.li.line = .sending) then s else s.withLi { s.li with stuck := true, stuckSeen := true })

/-- LINE_STUCK_RELEASE (R4). -/
def execLineStuckRelease (s : State) : Answer :=
  .next (if !s.loading && s.li.stuck then s.withLi { s.li.enterGap 0 with stuck := false } else s)

/-- The byte may be kept where it stands in the frame: a header with a valid sender id (R9), any kind byte, a length that fits the
kind (R11), a payload byte (R6). -/
def keepsByte (buf : List Byte) (b : Byte) : Bool :=
  if buf.length = 0 then validSender (headerSender b)
  else if buf.length = 1 then true
  else if buf.length = 2 then lengthFits (frameKind buf) b.toNat
  else !awaitsCheck buf

/-- BYTE_TAKEN (R2, R9, R11). -/
def execByteTaken (b : Byte) (s : State) : Answer :=
  .next (if s.lineIs .receiving && keepsByte s.li.rxBuffer b then s.withLi { s.li with rxBuffer := s.li.rxBuffer ++ [b] } else s)

/-- The header failure can arise: a framing fault, or a whole header with sender id 0 or 63 (R9). -/
def HeaderFailure.arises : HeaderFailure → Bool
  | .framing => true
  | .badSender h => !validSender (headerSender h)

/-- The recessive bit times as the failed header ends (R2, log 5). -/
def HeaderFailure.recessive : HeaderFailure → Nat
  | .framing => 0
  | .badSender h => recessiveTail h

/-- OPENING_FAILURE (R9). -/
def execOpeningFailure (f : HeaderFailure) (s : State) : Answer :=
  .next (if s.lineIs .receiving && s.li.rxBuffer.isEmpty && HeaderFailure.arises f then
    s.withLi { s.li.enterGap (HeaderFailure.recessive f) with errors := { s.li.errors with opening := true } }
  else s)

/-- MISSING_STOP_BIT (R10). -/
def execMissingStopBit (s : State) : Answer :=
  .next (if s.lineIs .receiving && !s.li.rxBuffer.isEmpty then
    s.withLi { s.li.enterGap 0 with errors := { s.li.errors with byte := true } }
  else s)

/-- TRUNCATION (R5, R10): the line has been recessive for more than a frame gap, so the part passes through GAP to IDLE at once. -/
def execTruncation (s : State) : Answer :=
  .next (if s.lineIs .receiving && !s.li.rxBuffer.isEmpty then
    State.trySend (s.withLi { s.li.enterGap 21 with line := .idle, errors := { s.li.errors with byte := true } })
  else s)

/-- LENGTH_FAILURE (R11). -/
def execLengthFailure (len : Byte) (s : State) : Answer :=
  .next (if s.lineIs .receiving && decide (s.li.rxBuffer.length = 2) && !lengthFits (frameKind s.li.rxBuffer) len.toNat then
    s.withLi { (s.li.enterGap (recessiveTail len)).raiseDiscard with errors := { s.li.errors with length := true } }
  else s)

/-- CHECK_FAILURE (R12). -/
def execCheckFailure (check : Byte) (s : State) : Answer :=
  .next (if s.lineIs .receiving && awaitsCheck s.li.rxBuffer && !checkAgrees s.li.rxBuffer check then
    s.withLi { (s.li.enterGap (recessiveTail check)).raiseDiscard with errors := { s.li.errors with check := true } }
  else s)

/-- UNEXPECTED_FRAME (R13). -/
def execUnexpectedFrame (check : Byte) (s : State) : Answer :=
  .next (if s.lineIs .receiving && awaitsCheck s.li.rxBuffer && checkAgrees s.li.rxBuffer check && !frameExpected s.li.rxBuffer then
    s.withLi { (s.li.enterGap (recessiveTail check)).raiseDiscard with errors := { s.li.errors with unexpected := true } }
  else s)

end Sys2Proof.Machine
end

