-- ==== Sys2Proof/Machine/Frames.lean ====
section
/-! DEFINITION. Accepted frames and the blocks that own their kinds (R14): the meanings of CLAIM_RECEIVED, SITE_RECEIVED, PLAN_RECEIVED,
CANCEL_RECEIVED, DIAG_ASK_RECEIVED and OTHER_REPORT_RECEIVED. -/

namespace Sys2Proof.Machine

/-- The check byte completes a frame of this kind that passes every receive check (R12 to R14). -/
def State.accepts (kind : Nat) (check : Byte) (s : State) : Bool :=
  s.lineIs .receiving && completesFrame kind s.li.rxBuffer check

/-- The line's part of an acceptance: the valid count rises and the line state is GAP (R5, R12, R14). -/
def State.acceptFrame (check : Byte) (s : State) : State := s.withLi (s.li.enterGap (recessiveTail check)).raiseValid

/-- A SITE at the Share Computer (R61). -/
def ShareComputer.takeSite (building : Nat) (sc : ShareComputer) : ShareComputer :=
  { sc with siteLoad := some (min building 60000), freshness := 4 }

/-- The setpoint after a shed (R133). -/
def shedSetpoint (c : Settings) (total setpoint : Nat) : Nat :=
  if c.cap < total then
    if setpoint * (c.cap - marginOf c) / total < c.pMin then 0 else setpoint * (c.cap - marginOf c) / total
  else setpoint

/-- An over-cap SITE at Power Stage Control (R133), which cuts the setpoint as it stands then. With a limit lowered at the same moment and taken
first, the cut is of the limited setpoint, below the lesser of the two that R134 names: DESIGN CHOICE (log 29). -/
def PowerStage.shed (c : Settings) (total : Nat) (ps : PowerStage) : PowerStage :=
  { ps with setpoint := shedSetpoint c total ps.setpoint, shedHold := 3 }

/-- A SITE handed to its blocks (R14, R28, R61, R133). -/
def State.handSite (f : RxSite) (s : State) : State :=
  let s1 := s.withSc (s.sc.takeSite f.building)
  let s2 := if f.overCap then s1.withPs (s1.ps.shed s1.cfg f.total) else s1
  s2.offerAnchor f.time

/-- CLAIM_RECEIVED (R14, R28, R38 to R43): the Peer View first, then the clock (log 14). -/
def execClaimReceived (check : Byte) (s : State) : Answer :=
  .next (if s.accepts 1 check then
    let s1 := s.acceptFrame check
    if s.active then
      State.settleLink (State.offerPeerTime (readClaim s.li.rxBuffer).time (s1.viewClaim (readClaim s.li.rxBuffer)))
    else s1
  else s)

/-- SITE_RECEIVED (R14, R28, R61, R133). -/
def execSiteReceived (check : Byte) (s : State) : Answer :=
  .next (if s.accepts 2 check then
    let s1 := s.acceptFrame check
    if s.active then State.settleLink (s1.handSite (readSite s.li.rxBuffer)) else s1
  else s)

/-- PLAN_RECEIVED (R14, R28, R96, R97): the clock first, then the walker (log 14). -/
def execPlanReceived (check : Byte) (s : State) : Answer :=
  .next (if s.accepts 3 check then
    let s1 := s.acceptFrame check
    if s.active then
      State.settleLink (State.judgePlan (readPlan s.li.rxBuffer) (s1.offerAnchor (readPlanTime s.li.rxBuffer)))
    else s1
  else s)

/-- CANCEL_RECEIVED (R14, R98). -/
def execCancelReceived (check : Byte) (s : State) : Answer :=
  .next (if s.accepts 4 check then
    let s1 := s.acceptFrame check
    if s.active then State.settleLink (s1.takeCancel (readCancelTag s.li.rxBuffer) (readCancelSerial s.li.rxBuffer)) else s1
  else s)

/-- A DIAG-ASK's target names this bay (R155). -/
def State.asksMe (target : Nat) (s : State) : Bool :=
  decide (target = 0) || (validSender s.sl.stationId && decide (target = s.sl.stationId))

/-- DIAG_ASK_RECEIVED (R14, R22, R155), in ACTIVE and in CONFIG-FAULT. -/
def execDiagAskReceived (check : Byte) (s : State) : Answer :=
  .next (if s.accepts 5 check then
    let s1 := s.acceptFrame check
    if s.asksMe (readTarget s.li.rxBuffer) then s1.enqueue .diag else s1
  else s)

/-- OTHER_REPORT_RECEIVED (R14, R158): a REPORT or a DIAG is counted and no more. -/
def execOtherReportReceived (check : Byte) (s : State) : Answer :=
  .next (if s.accepts 6 check || s.accepts 7 check then s.acceptFrame check else s)

end Sys2Proof.Machine
end

