-- ==== Sys2Proof/Machine/Link.lean ====
section
/-! DEFINITION. The Plug Link: plug detect, link resets, the three exchanges, failures, LOST and recovery, and the request set's timers
(R110 to R128). -/

namespace Sys2Proof.Machine

/-! ## Plug detect -/

/-- PLUG_CONTACT_CHANGE (R111): the settle time runs while the contact differs from the plug state, from the last change. -/
def execPlugContactChange (closed : Bool) (s : State) : Answer :=
  .next (if s.active && s.pl.contact.isSome && decide (s.pl.contact ≠ some closed) then
    s.withPl { s.pl with contact := some closed, settle := if closed = s.pl.plugClosed then .stopped else .running 100 }
  else s)

/-- A link reset put on the line, its presence watch begun (R114); it ends any session. -/
def PlugLink.sendReset (pl : PlugLink) : PlugLink :=
  { pl with resetOnLine := true, output := .linkReset, resetWait := .stopped, exchange := none, busyWait := .stopped }

/-- The settle time completes toward a level (R111). -/
def PlugLink.settlesTo (closed : Bool) (pl : PlugLink) : Bool :=
  pl.settle.isRunning && decide (pl.contact = some closed) && decide (pl.plugClosed ≠ closed)

/-- PLUG_CLOSED (R111, R113). -/
def execPlugClosed (s : State) : Answer :=
  .next (if s.pl.settlesTo true then
    State.judgeContactor
      ((s.withPl { s.pl.sendReset with plugClosed := true, settle := .stopped, link := .resetting, failures := 0, misses := 0 }).withPs
        { s.ps with plugDetected := true })
  else s)

/-- PL's own state after a plug open event (R112). -/
def PlugLink.unplug (pl : PlugLink) : PlugLink :=
  { pl with
    plugClosed := false, settle := .stopped, link := .unplugged, identity := none, status := none, heaterWanted := none,
    wantStatus := false, wantHeater := none, exchange := none, failures := 0, misses := 0, pollTimer := .stopped,
    recoveryTimer := .stopped, resetWait := .stopped, busyWait := .stopped, pause := .stopped, resetOnLine := false,
    output := .released }

/-- PS after its link view changes, the contactor judged (R135). -/
def State.linkView (plugDetected linkWorking : Bool) (s : State) : State :=
  State.judgeContactor (s.withPs { s.ps with plugDetected := plugDetected, linkWorking := linkWorking })

/-- Where the weld latch is clear a plug open takes CLOSE-FAULT to OPEN; the other states follow R136 to R138 (R139, log 9). -/
def PowerStage.clearCloseFault (ps : PowerStage) : PowerStage :=
  { ps with
    closeLatch := false, closeMisses := 0, retryWait := .stopped,
    contactor := if ps.contactor = .closeFault ∧ ps.weldLatch = false then .isOpen else ps.contactor }

/-- PS at a plug open event (R135 to R139). -/
def State.powerPlugRemoved (s : State) : State :=
  let s1 := s.linkView false false
  let s2 := s1.withPs s1.ps.clearCloseFault
  if s2.ps.weldLatch then s2 else s2.setHolds { s2.pw.holds with contactorFault := false }

/-- PLUG_OPEN (R112): PL's state, accept 0 handed on, then plug removed at the walker (R92) and at PS (R139). -/
def execPlugOpen (s : State) : Answer :=
  .next (if s.pl.settlesTo false then
    State.powerPlugRemoved (State.walkerPlugRemoved (State.handAccept 0 (s.withPl s.pl.unplug)))
  else s)

/-! ## LOST -/

/-- PL's own state on entering LOST (R123). -/
def PlugLink.lose (pl : PlugLink) : PlugLink :=
  { pl with
    link := .lost, exchange := none, pollTimer := .stopped, recoveryTimer := .running 10000, resetWait := .stopped,
    busyWait := .stopped, pause := .stopped, resetOnLine := false, output := .released }

/-- The tag of the last van identity, or zeros (R123, R154). -/
def PlugLink.tag (pl : PlugLink) : VanTag :=
  match pl.identity with
  | some v => v.tag
  | none => 0#48

/-- The link enters LOST (R123). -/
def State.enterLost (s : State) : State :=
  let s1 := State.linkLostReport (State.handAccept 0 (s.withPl s.pl.lose))
  State.queueReport .fault s1.pl.tag causeLinkLost (s1.linkView s1.ps.plugDetected false)

/-! ## Link resets -/

/-- No presence in RESETTING (R122): the next reset 1 s later, and LOST at the sixth miss. -/
def State.resetMissed (s : State) : State :=
  let pl := { s.pl with resetOnLine := false, output := .released, misses := s.pl.misses + 1 }
  if s.pl.misses + 1 ≤ 5 then s.withPl { pl with resetWait := .running 1000 } else State.enterLost (s.withPl pl)

/-- LINK_RESET_RESULT (R114, R122, R124). -/
def execLinkResetResult (fellAt : Option Nat) (highAgain : Bool) (s : State) : Answer :=
  .next (if s.pl.resetOnLine then
    if s.pl.link = .resetting then
      if presenceSeen fellAt highAgain then
        s.withPl { s.pl.writeCommand .ident with resetOnLine := false, misses := 0, link := .identifying }
      else s.resetMissed
    else if s.pl.link = .lost then
      if presenceSeen fellAt highAgain then s.withPl { s.pl.writeCommand .ident with resetOnLine := false }
      else s.withPl { s.pl with resetOnLine := false, output := .released }
    else s
  else s)

/-- RESET_RETRY_WAIT_EXPIRY (R119, R122). -/
def execResetRetryWaitExpiry (s : State) : Answer :=
  .next (if s.pl.resetWait.isRunning && decide (s.pl.link = .resetting) then s.withPl s.pl.sendReset else s)

/-- RECOVERY_TIMER_EXPIRY (R124): a recovery attempt, and the timer again at 10 s (log 17). -/
def execRecoveryTimerExpiry (s : State) : Answer :=
  .next (if s.pl.recoveryTimer.isRunning && decide (s.pl.link = .lost) then
    s.withPl { s.pl.sendReset with recoveryTimer := .running 10000 }
  else s)

/-! ## Exchanges -/

/-- The exchange in flight has this command and its reply is being read: it is not waiting for a re-poll. -/
def PlugLink.reading (pl : PlugLink) : Option Exchange := if pl.busyWait.isRunning then none else pl.exchange

/-- What a reply makes of its exchange (R117, R118). -/
inductive ExchangeEnd where
  | repoll (e : Exchange)
  | retry (e : Exchange)
  | failed
  | valid
  | refused
  deriving DecidableEq, Repr

/-- R118: at most 8 re-polls and 2 immediate retries; an IDENT or STATUS answered REFUSED is failed. -/
def exchangeEnd (e : Exchange) (v : Verdict) : ExchangeEnd :=
  match v with
  | .busy => if e.busy + 1 ≤ 8 then .repoll { e with busy := e.busy + 1 } else .failed
  | .bad => if e.bad + 1 ≤ 2 then .retry { e with bad := e.bad + 1 } else .failed
  | .valid => .valid
  | .refused =>
    match e.command with
    | .heater _ => .refused
    | _ => .failed

/-- A re-poll in 50 ms, or a retry at once (R118). -/
def PlugLink.repoll (e : Exchange) (pl : PlugLink) : PlugLink :=
  { pl with exchange := some e, busyWait := .running 50, output := .released }

def PlugLink.retry (e : Exchange) (pl : PlugLink) : PlugLink :=
  { pl with exchange := some e, output := .command e.command.slots }

/-- The exchange is over: nothing in flight, the line released. -/
def PlugLink.endExchange (pl : PlugLink) : PlugLink := { pl with exchange := none, busyWait := .stopped, output := .released }

/-- A completed STATUS or HEATER: failure count 0, the link READY (R118). -/
def PlugLink.complete (pl : PlugLink) : PlugLink := { pl.endExchange with failures := 0, link := .ready }

/-- A failed request goes back to the set: a STATUS merges, a HEATER gives way to a newer one (R126). -/
def PlugLink.returnRequest (c : LinkCommand) (pl : PlugLink) : PlugLink :=
  match c with
  | .ident => pl
  | .status => { pl with wantStatus := true }
  | .heater h => { pl with wantHeater := some (pl.wantHeater.getD h) }

/-- A failed STATUS or HEATER (R118, R126): LOST at the third failure in a row, and otherwise READY with a service pause. -/
def State.requestFailed (c : LinkCommand) (s : State) : State :=
  let pl := { (s.pl.endExchange).returnRequest c with failures := s.pl.failures + 1 }
  if s.pl.failures + 1 < 3 then s.withPl { pl with link := .ready, pause := .running 1000 } else State.enterLost (s.withPl pl)

/-- A failed IDENT of IDENTIFYING (R118, R119). -/
def State.identFailed (s : State) : State :=
  let pl := { s.pl.endExchange with failures := s.pl.failures + 1 }
  if s.pl.failures + 1 < 3 then s.withPl { pl with link := .resetting, misses := 0, resetWait := .running 1000 }
  else State.enterLost (s.withPl pl)

/-- An identity recorded and the link READY, the poll timer at 10 s (R119, R124). -/
def PlugLink.identified (v : VanIdentity) (pl : PlugLink) : PlugLink :=
  { pl.complete with identity := some v, pollTimer := .running 10000, recoveryTimer := .stopped }

/-- A valid IDENT of IDENTIFYING (R119). -/
def State.identValid (v : VanIdentity) (s : State) : State :=
  let s1 := State.vanIdentified v.tag v.capacity (s.withPl (s.pl.identified v))
  s1.linkView s1.ps.plugDetected true

/-- A valid IDENT of a recovery attempt (R124). -/
def State.recovered (v : VanIdentity) (s : State) : State :=
  if s.pl.identity.map VanIdentity.tag = some v.tag then
    let s1 := State.sameVan (s.withPl (s.pl.identified v))
    s1.linkView s1.ps.plugDetected true
  else
    let pl := { s.pl.identified v with wantStatus := false, wantHeater := none, status := none, heaterWanted := none }
    let s1 := State.differentVan v.tag v.capacity (s.withPl pl)
    s1.linkView s1.ps.plugDetected true

/-- IDENT_REPLY (R117 to R119, R124). -/
def execIdentReply (r : LinkReply) (s : State) : Answer :=
  .next (match s.pl.reading with
  | some ⟨.ident, busy, bad⟩ =>
    if replyFits .ident r then
      match exchangeEnd ⟨.ident, busy, bad⟩ (judgeReply .ident r) with
      | .repoll e => s.withPl (s.pl.repoll e)
      | .retry e => s.withPl (s.pl.retry e)
      | .valid => State.settleLink (if s.pl.link = .lost then s.recovered (readIdentity r.data) else s.identValid (readIdentity r.data))
      | _ => if s.pl.link = .lost then s.withPl s.pl.endExchange else s.identFailed
    else s
  | _ => s)

/-- The effective accept power (R120). -/
def effectiveAccept (identity : Option VanIdentity) (st : LinkStatus) : Nat :=
  if st.ready then min st.acceptNow ((identity.map VanIdentity.maxAccept).getD 0) else 0

/-- The heater check of R120: a wanted setting that the running flags do not show is asked for again. -/
def PlugLink.checkHeaters (st : LinkStatus) (pl : PlugLink) : PlugLink :=
  match pl.heaterWanted with
  | some h => if (st.packRunning ≠ h.pack ∨ st.cabinRunning ≠ h.cabin) ∧ pl.wantHeater = none then pl.placeHeater h else pl
  | none => pl

/-- A valid STATUS (R120). -/
def State.statusValid (st : LinkStatus) (s : State) : State :=
  let s1 := s.withPl { s.pl.complete with status := some st }
  let s2 := State.handAccept (effectiveAccept s.pl.identity st) s1
  let s3 := s2.takeStatus st.soc st.temperature
  s3.withPl (s3.pl.checkHeaters st)

/-- STATUS_REPLY (R117, R118, R120). -/
def execStatusReply (r : LinkReply) (s : State) : Answer :=
  .next (match s.pl.reading with
  | some ⟨.status, busy, bad⟩ =>
    if replyFits .status r then
      match exchangeEnd ⟨.status, busy, bad⟩ (judgeReply .status r) with
      | .repoll e => s.withPl (s.pl.repoll e)
      | .retry e => s.withPl (s.pl.retry e)
      | .valid => State.settleLink (s.statusValid (readLinkStatus r.data))
      | _ => s.requestFailed .status
    else s
  | _ => s)

/-- HEATER_REPLY (R117, R118, R121). -/
def execHeaterReply (r : LinkReply) (s : State) : Answer :=
  .next (match s.pl.reading with
  | some ⟨.heater h, busy, bad⟩ =>
    if replyFits (.heater h) r then
      match exchangeEnd ⟨.heater h, busy, bad⟩ (judgeReply (.heater h) r) with
      | .repoll e => s.withPl (s.pl.repoll e)
      | .retry e => s.withPl (s.pl.retry e)
      | .valid => State.settleLink (s.withPl { s.pl.complete with heaterWanted := some h })
      | .refused => State.settleLink (State.heaterRefused h (s.withPl s.pl.complete))
      | .failed => s.requestFailed (.heater h)
    else s
  | _ => s)

/-- BUSY_REPOLL_WAIT_EXPIRY (R118): the same command, with the same arguments, is written again. -/
def execBusyRepollWaitExpiry (s : State) : Answer :=
  .next (match s.pl.exchange with
  | some e => if s.pl.busyWait.isRunning then s.withPl { s.pl with busyWait := .stopped, output := .command e.command.slots } else s
  | none => s)

/-- SERVICE_PAUSE_END (R118, R126). -/
def execServicePauseEnd (s : State) : Answer :=
  .next (if s.pl.pause.isRunning then State.settleLink (s.withPl { s.pl with pause := .stopped }) else s)

/-- POLL_TIMER_EXPIRY (R125 to R127). -/
def execPollTimerExpiry (s : State) : Answer :=
  .next (if s.pl.pollTimer.isRunning then State.settleLink (s.withPl { s.pl.placeStatus with pollTimer := .running 10000 }) else s)

end Sys2Proof.Machine
end

