-- ==== Sys2Proof/Machine/Power.lean ====
section
/-! DEFINITION. The contactor's and the meter's commands, and the walker's own (R99, R100, R136 to R144). -/

namespace Sys2Proof.Machine

/-- SENSE_READS_CLOSED (R136, R139): in CLOSING the contactor becomes CLOSED. -/
def execSenseReadsClosed (s : State) : Answer :=
  .next (
    let ps := { s.ps with senseClosed := true }
    if ps.contactor = .closing then s.withPs { ps with senseTimer := .stopped, contactor := .isClosed } else s.withPs ps)

/-- SENSE_READS_OPEN (R137, R138): a dropout in CLOSED is a failed close; the sense phase of OPENING ends in OPEN. -/
def execSenseReadsOpen (s : State) : Answer :=
  .next (
    let s1 := s.withPs { s.ps with senseClosed := false }
    match s.ps.contactor with
    | .isClosed => s1.failedClose
    | .opening .sense => s1.withPs (s1.ps.enterOpen s1.active)
    | _ => s1)

/-- CLOSE_SENSE_TIMER_EXPIRY (R136): in CLOSING, a failed close. -/
def execCloseSenseTimerExpiry (s : State) : Answer :=
  .next (if s.ps.senseTimer.isRunning && decide (s.ps.contactor = .closing) then s.failedClose else s)

/-- OPEN_SENSE_TIMER_EXPIRY (R138, R139): in the sense phase of OPENING, the weld latch. -/
def execOpenSenseTimerExpiry (s : State) : Answer :=
  .next (if s.ps.senseTimer.isRunning && decide (s.ps.contactor = .opening .sense) then s.setWeldLatch else s)

/-- RETRY_WAIT_EXPIRY (R136). -/
def execRetryWaitExpiry (s : State) : Answer :=
  .next (if s.ps.retryWait.isRunning then State.judgeContactor (s.withPs { s.ps with retryWait := .stopped }) else s)

/-- DRAW_WAIT_EXPIRY (R138). -/
def execDrawWaitExpiry (s : State) : Answer :=
  .next (if s.ps.drawWait.isRunning && decide (s.ps.contactor = .opening .draw) then s.withPs (s.ps.beginSensePhase s.active) else s)

/-- The metering record after an update (R142). -/
def PowerStage.takeDraw (power : Nat) (ps : PowerStage) : PowerStage :=
  { ps with draw := min power 9999, updateTaken := true, updateAge := some 0, meterLost := false }

/-- The draw phase of OPENING ends at an update below 5 (R138, R142). -/
def State.endDrawPhase (power : Nat) (s : State) : State :=
  if s.ps.contactor = .opening .draw ∧ power < 5 then s.withPs (s.ps.beginSensePhase s.active) else s

/-- DRAW_UPDATE (R142, R143). -/
def execDrawUpdate (power : Nat) (s : State) : Answer :=
  .next (if s.active then
    let s1 := s.withPs (s.ps.takeDraw power)
    let s2 := if s.ps.meterLost then s1.setHolds { s1.pw.holds with meterLost := false } else s1
    State.settleLink (s2.endDrawPhase power)
  else s)

/-- METER_LOST (R143). -/
def execMeterLost (s : State) : Answer :=
  .next (if s.active && !s.ps.meterLost then
    let s1 := s.withPs { s.ps with meterLost := true, setpoint := 0, updateAge := some 3 }
    State.queueReport .fault s.pw.tag causeMeterLost (s1.setHolds { s1.pw.holds with meterLost := true })
  else s)

/-- ENERGY_PULSE (R100, R144). -/
def execEnergyPulse (s : State) : Answer := .next s.countPulse.settleLink

/-- DEFAULT_PLAN_TIMER_EXPIRY (R99). -/
def execDefaultPlanTimerExpiry (s : State) : Answer :=
  .next (if s.pw.defaultTimer.isRunning && decide (s.pw.state = .awaiting) && s.pw.held.isNone then s.adoptDefault.settleLink else s)

end Sys2Proof.Machine
end

