-- ==== Sys2Proof/Machine/Dispatch.lean ====
section
/-! DEFINITION. One arm per command: each calls its meaning. -/

namespace Sys2Proof.Machine

def exec (i : Instr) (s : State) : Host.Outcome State Fault Refusal :=
  match i with
  | .powerUp senseClosed => Sys2Proof.Machine.execPowerUp senseClosed s
  | .brownOut senseClosed => Sys2Proof.Machine.execBrownOut senseClosed s
  | .imageReadComplete bits contactClosed => Sys2Proof.Machine.execImageReadComplete bits contactClosed s
  | .frameGapComplete => Sys2Proof.Machine.execFrameGapComplete s
  | .joinForeignStart => Sys2Proof.Machine.execJoinForeignStart s
  | .arbitrationLoss => Sys2Proof.Machine.execArbitrationLoss s
  | .transmitMismatch => Sys2Proof.Machine.execTransmitMismatch s
  | .frameSentWhole => Sys2Proof.Machine.execFrameSentWhole s
  | .diagSentWhole => Sys2Proof.Machine.execDiagSentWhole s
  | .lineClear => Sys2Proof.Machine.execLineClear s
  | .lineStuck => Sys2Proof.Machine.execLineStuck s
  | .lineStuckRelease => Sys2Proof.Machine.execLineStuckRelease s
  | .openingFailure failure => Sys2Proof.Machine.execOpeningFailure failure s
  | .missingStopBit => Sys2Proof.Machine.execMissingStopBit s
  | .truncation => Sys2Proof.Machine.execTruncation s
  | .lengthFailure length => Sys2Proof.Machine.execLengthFailure length s
  | .checkFailure check => Sys2Proof.Machine.execCheckFailure check s
  | .unexpectedFrame check => Sys2Proof.Machine.execUnexpectedFrame check s
  | .claimReceived check => Sys2Proof.Machine.execClaimReceived check s
  | .siteReceived check => Sys2Proof.Machine.execSiteReceived check s
  | .planReceived check => Sys2Proof.Machine.execPlanReceived check s
  | .cancelReceived check => Sys2Proof.Machine.execCancelReceived check s
  | .diagAskReceived check => Sys2Proof.Machine.execDiagAskReceived check s
  | .otherReportReceived check => Sys2Proof.Machine.execOtherReportReceived check s
  | .oscillatorSecond => Sys2Proof.Machine.execOscillatorSecond s
  | .anchorLapse => Sys2Proof.Machine.execAnchorLapse s
  | .conflictReportGuardExpiry => Sys2Proof.Machine.execConflictReportGuardExpiry s
  | .tallyExpiry => Sys2Proof.Machine.execTallyExpiry s
  | .claimPeriodExpiry => Sys2Proof.Machine.execClaimPeriodExpiry s
  | .defaultPlanTimerExpiry => Sys2Proof.Machine.execDefaultPlanTimerExpiry s
  | .energyPulse => Sys2Proof.Machine.execEnergyPulse s
  | .plugContactChange closed => Sys2Proof.Machine.execPlugContactChange closed s
  | .plugClosed => Sys2Proof.Machine.execPlugClosed s
  | .plugOpen => Sys2Proof.Machine.execPlugOpen s
  | .linkResetResult fellAt highAgain => Sys2Proof.Machine.execLinkResetResult fellAt highAgain s
  | .resetRetryWaitExpiry => Sys2Proof.Machine.execResetRetryWaitExpiry s
  | .identReply reply => Sys2Proof.Machine.execIdentReply reply s
  | .statusReply reply => Sys2Proof.Machine.execStatusReply reply s
  | .heaterReply reply => Sys2Proof.Machine.execHeaterReply reply s
  | .busyRepollWaitExpiry => Sys2Proof.Machine.execBusyRepollWaitExpiry s
  | .servicePauseEnd => Sys2Proof.Machine.execServicePauseEnd s
  | .recoveryTimerExpiry => Sys2Proof.Machine.execRecoveryTimerExpiry s
  | .pollTimerExpiry => Sys2Proof.Machine.execPollTimerExpiry s
  | .senseReadsClosed => Sys2Proof.Machine.execSenseReadsClosed s
  | .senseReadsOpen => Sys2Proof.Machine.execSenseReadsOpen s
  | .closeSenseTimerExpiry => Sys2Proof.Machine.execCloseSenseTimerExpiry s
  | .openSenseTimerExpiry => Sys2Proof.Machine.execOpenSenseTimerExpiry s
  | .retryWaitExpiry => Sys2Proof.Machine.execRetryWaitExpiry s
  | .drawWaitExpiry => Sys2Proof.Machine.execDrawWaitExpiry s
  | .drawUpdate power => Sys2Proof.Machine.execDrawUpdate power s
  | .meterLost => Sys2Proof.Machine.execMeterLost s
  | .byteTaken byte => Sys2Proof.Machine.execByteTaken byte s
  | .dominantLevelInGap => Sys2Proof.Machine.execDominantLevelInGap s

end Sys2Proof.Machine
end

