-- ==== Sys2Proof/Safety.lean ====
section
/-! DEFINITION. What every step keeps: the invariants the spec's rules state, one group per block, each over all states. -/

namespace Sys2Proof.Machine

/-! ## Line Interface -/

/-- The transmit queue of R20 to R23: at most 4 frames in class order, at most one CLAIM and one DIAG, and one frame on the line exactly in
SENDING; a retry count of 3 takes a frame out (R18); only a CLAIM on the line is marked replaced (R21); nothing is sent while the line is
stuck (R4). -/
def LineInterface.queueOk (li : LineInterface) : Prop :=
  li.queue.length ≤ 4
    ∧ li.queue.Pairwise (fun a b => a.frame.cls ≤ b.frame.cls)
    ∧ li.queue.countP QueueEntry.isClaim ≤ 1
    ∧ li.queue.countP QueueEntry.isDiag ≤ 1
    ∧ li.queue.countP QueueEntry.onLine = (if li.line = .sending then 1 else 0)
    ∧ (li.stuck = true → li.line ≠ .sending)
    ∧ ∀ e ∈ li.queue, e.retries ≤ 2 ∧ (e.replaced = true → e.onLine = true ∧ e.isClaim = true)

/-- The counts keep their ranges (R15). -/
def LineInterface.countsOk (li : LineInterface) : Prop := li.validCount ≤ 65535 ∧ li.discardCount ≤ 255

/-- The receive buffer holds bytes in RECEIVING only, and what it holds has passed the checks of R9 and R11. -/
def LineInterface.bufferOk (li : LineInterface) : Prop :=
  (li.line ≠ .receiving → li.rxBuffer = [])
    ∧ (1 ≤ li.rxBuffer.length → validSender (frameSender li.rxBuffer) = true)
    ∧ (3 ≤ li.rxBuffer.length →
        lengthFits (frameKind li.rxBuffer) (frameLength li.rxBuffer) = true ∧ li.rxBuffer.length ≤ 3 + frameLength li.rxBuffer)

/-- The part drives the line in SENDING only, and leaves it recessive otherwise (R1). -/
def LineInterface.outputOk (li : LineInterface) : Prop := li.output = .recessive ↔ li.line ≠ .sending

/-- The Line Interface's invariant. In LOADING it takes no notice of the line and stays in GAP (R24). -/
def State.lineOk (s : State) : Prop :=
  s.li.queueOk ∧ s.li.countsOk ∧ s.li.bufferOk ∧ s.li.outputOk ∧ (s.sl.config = .loading → s.li.line = .gap)

/-! ## Depot Clock -/

/-- R25, R26, R32: depot time within the day and 0 while UNSET; the anchor age at most 600. -/
def DepotClock.timeOk (dc : DepotClock) : Prop :=
  dc.time < 86400 ∧ dc.anchorAge ≤ 600 ∧ (dc.source = .unset → dc.time = 0)

/-! ## Peer View -/

/-- An entry within its ranges (03 section 3.1, R35, R44). -/
def PeerEntry.inRange (e : PeerEntry) : Prop :=
  e.floor ≤ e.ceiling ∧ e.ceiling ≤ 9999 ∧ e.urgency ≤ 1000 ∧ (e.ceiling = 0 → e.urgency = 0) ∧ e.draw ≤ 9999 ∧ e.age ≤ 7
    ∧ (e.stale = true ↔ 3 ≤ e.age)

/-- R36: the table of a station: at most 48 entries, in order, no id twice, never the own id. -/
def PeerView.tableOk (own : Nat) (pv : PeerView) : Prop :=
  pv.entries.length ≤ 48
    ∧ pv.entries.Pairwise (fun a b => standsBefore a.urgency a.id b.urgency b.id = true)
    ∧ pv.entries.Pairwise (fun a b => a.id ≠ b.id)
    ∧ (∀ e ∈ pv.entries, e.id ≠ own ∧ e.inRange)
    ∧ pv.unlistedDraw ≤ 9999

/-- The table is in order for the own id, and empty outside ACTIVE (R36, R51); an accepted image gives the own id (R24, R149). -/
def State.viewOk (s : State) : Prop :=
  s.pv.tableOk s.sl.stationId ∧ (s.sl.config = .active → s.cfg.stationId = s.sl.stationId) ∧ (s.sl.config ≠ .active → s.pv.entries = [])

/-! ## Start-up -/

/-- The walker as R85 leaves it, with the contactor fault cause as given. -/
def Walker.fresh (contactorFault : Bool) : Walker := { Walker.reset with holds := { Walker.reset.holds with contactorFault := contactorFault } }

/-- Power Stage Control as R129 and R140 leave it, with the weld check's result and the sense reading as given. -/
def PowerStage.fresh (weldLatch senseClosed : Bool) : PowerStage :=
  { PowerStage.reset with
    weldLatch := weldLatch, senseClosed := senseClosed, contactor := if weldLatch then .weldFault else .isOpen }

/-- What ACTIVE stands for (R148, R149), and what stays at its power-on values without an accepted image: every block but the Start-up
Loader and the Line Interface, and at Power Stage Control all but the weld check's result and the sense reading (R25, R51, R52, R85,
R110, R129, R150). -/
def State.startOk (s : State) : Prop :=
  (s.sl.config = .active → imageValid s.cfg = true)
    ∧ (s.sl.config ≠ .active →
        s.cfg = .none ∧ s.dc = .reset ∧ s.pv = .reset ∧ s.sc = .reset ∧ s.pl = .reset
          ∧ s.pw = .fresh s.ps.weldLatch ∧ s.ps = .fresh s.ps.weldLatch s.ps.senseClosed)

/-! ## Power Stage Control -/

/-- R132: the setpoint is 0, or at least P_min and at most the least of P_bay, the last posted share and the van accept limit; and it is 0
whenever the contactor is not CLOSED (R137) and while meter lost is set (R143). -/
def PowerStage.setpointOk (c : Settings) (ps : PowerStage) : Prop :=
  ps.setpoint = 0
    ∨ (ps.contactor = .isClosed ∧ ps.meterLost = false
        ∧ c.pMin ≤ ps.setpoint ∧ ps.setpoint ≤ c.pBay ∧ ps.setpoint ≤ ps.target ∧ ps.setpoint ≤ ps.acceptLimit)

/-- R132 for the part; outside ACTIVE the setpoint is 0 and no expiry can post a share (R52, R129). -/
def State.setpointOk (s : State) : Prop :=
  s.ps.setpointOk s.cfg ∧ (s.sl.config ≠ .active → s.ps.setpoint = 0 ∧ s.sc.claimTimer = .stopped)

/-- The drive is on in CLOSING, in CLOSED and in the draw phase of OPENING (08 section 8.4). -/
def Contactor.driven : Contactor → Bool
  | .closing => true
  | .isClosed => true
  | .opening .draw => true
  | _ => false

/-- The sense timer runs in CLOSING and in the sense phase of OPENING (R136, R138). -/
def Contactor.sensing : Contactor → Bool
  | .closing => true
  | .opening .sense => true
  | _ => false

/-- CLOSING or CLOSED. -/
def Contactor.engaged : Contactor → Bool
  | .closing => true
  | .isClosed => true
  | _ => false

/-- The contactor, its drive, timers and latches agree (R136 to R139), it is in CLOSING or CLOSED only while wanted closed (R135), and in
OPEN while wanted only with the retry wait running. -/
def PowerStage.contactorOk (active : Bool) (ps : PowerStage) : Prop :=
  ps.drive = ps.contactor.driven
    ∧ ps.senseTimer.isRunning = ps.contactor.sensing
    ∧ ps.drawWait.isRunning = decide (ps.contactor = .opening .draw)
    ∧ ps.closeLatch = decide (ps.contactor = .closeFault)
    ∧ ps.weldLatch = decide (ps.contactor = .weldFault)
    ∧ (ps.contactor.engaged = true → ps.wanted active = true)
    ∧ (ps.contactor = .isOpen → ps.wanted active = true → ps.retryWait.isRunning = true)
    ∧ (ps.contactor = .closing → ps.senseClosed = false)
    ∧ (ps.contactor = .isClosed → ps.senseClosed = true)
    ∧ (ps.contactor = .opening .sense → ps.senseClosed = true)
    ∧ ps.closeMisses ≤ 1
    ∧ ps.shedHold ≤ 3

/-! ## Programme Walker -/

/-- The plan slot of R86. -/
def Walker.slotOk (pw : Walker) : Prop :=
  (∀ r, pw.revision = some r → ∃ h, pw.held = some h ∧ h.serial < r.serial)
    ∧ (pw.cancelled.isSome = true ↔ pw.state = .aborted)
    ∧ (pw.revision.isSome = true → pw.state.walking = true)

/-- The programme of R94 and the walker position on it. -/
def Walker.programmeOk (pw : Walker) : Prop :=
  pw.steps.length ≤ 4
    ∧ pw.steps.Pairwise (fun a b => a.kind.code < b.kind.code)
    ∧ (∀ st ∈ pw.steps, 1 ≤ st.amount)
    ∧ (pw.pos.isSome = true ↔ pw.steps ≠ [])
    ∧ (∀ p, pw.pos = some p → p.carry ≤ 99 ∧ ∃ st, pw.steps[p.index]? = some st ∧ p.remaining ≤ st.amount
        ∧ (pw.state.walking = true → 1 ≤ p.remaining))

/-- The programme states of 06 section 6.3: which hold a van, a plan, a programme and a hold cause. -/
def Walker.stateOk (pw : Walker) : Prop :=
  (pw.van.isSome = true ↔ pw.state ≠ .empty)
    ∧ (pw.state.walking = true → pw.pos.isSome = true ∧ pw.held.isSome = true ∧ pw.status.isSome = true
        ∧ (pw.state = .held ↔ pw.holds.holding = true))
    ∧ (pw.state = .empty ∨ pw.state = .awaiting ∨ pw.state = .aborted → pw.steps = [])
    ∧ (pw.state = .empty ∨ pw.state = .aborted → pw.held = none ∧ pw.holds.gateClosed = false)
    ∧ (pw.defaultTimer.isRunning = true ↔ pw.state = .awaiting ∧ pw.held = none)

/-- The walker's invariant. -/
def Walker.ok (pw : Walker) : Prop := pw.slotOk ∧ pw.programmeOk ∧ pw.stateOk

/-! ## Plug Link -/

/-- READY or EXCHANGE: a working link (R135). -/
def LinkState.working : LinkState → Bool
  | .ready => true
  | .exchange => true
  | _ => false

/-- What an exchange may be in each link state (07 section 7.6). -/
def exchangeFits (l : LinkState) (e : Option Exchange) : Prop :=
  match l with
  | .identifying => ∃ x, e = some x ∧ x.command = .ident
  | .exchange => ∃ x, e = some x ∧ x.command ≠ .ident
  | .lost => ∀ x, e = some x → x.command = .ident
  | _ => e = none

/-- The plug link's states and what each holds (R111, R112, R118, R122 to R127). -/
def PlugLink.linkOk (pl : PlugLink) : Prop :=
  (pl.link = .unplugged ↔ pl.plugClosed = false)
    ∧ exchangeFits pl.link pl.exchange
    ∧ (pl.link = .ready → pl.pause.isRunning = false → pl.wantStatus = false ∧ pl.wantHeater = none)
    ∧ (pl.link = .unplugged → pl.wantStatus = false ∧ pl.wantHeater = none ∧ pl.identity = none ∧ pl.status = none ∧ pl.heaterWanted = none)
    ∧ (pl.link.working = false → pl.accept = 0)
    ∧ (pl.link.working = true → pl.identity.isSome = true)
    ∧ (pl.pollTimer.isRunning = pl.link.working)
    ∧ (pl.recoveryTimer.isRunning = decide (pl.link = .lost))
    ∧ (pl.link = .resetting ↔ pl.resetWait.isRunning = true ∨ (pl.resetOnLine = true ∧ pl.link ≠ .lost))
    ∧ (pl.resetOnLine = true → pl.exchange = none ∧ pl.resetWait.isRunning = false)
    ∧ (pl.pause.isRunning = true → pl.link = .ready)
    ∧ (pl.busyWait.isRunning = true → pl.exchange.isSome = true)
    ∧ (∀ x, pl.exchange = some x → x.busy ≤ 8 ∧ x.bad ≤ 2)
    ∧ pl.failures ≤ 3 ∧ pl.misses ≤ 6
    ∧ (pl.link ≠ .lost → pl.failures ≤ 2)
    ∧ (pl.link = .resetting → pl.misses ≤ 5)

/-- R111: the settle time runs exactly while the sampled contact differs from the plug state. -/
def PlugLink.settleOk (pl : PlugLink) : Prop := pl.settle.isRunning = true ↔ pl.contact = some (!pl.plugClosed)

/-- The Plug Link's invariant. In LOADING it has not sampled the plug contact, and the plug state is OPEN (R110). -/
def State.linkOk (s : State) : Prop :=
  s.pl.linkOk ∧ s.pl.settleOk ∧ (s.sl.config = .loading → s.pl.contact = none ∧ s.pl.plugClosed = false)

/-! ## Share Computer -/

/-- The counts and the own claim of the Share Computer (R58, R62, R68). -/
def ShareComputer.countsOk (sc : ShareComputer) : Prop :=
  sc.freshness ≤ 4 ∧ sc.conflictHold ≤ 15 ∧ (0 < sc.freshness → sc.siteLoad.isSome = true) ∧ (∀ b, sc.siteLoad = some b → b ≤ 60000)
    ∧ sc.own.floor ≤ sc.own.ceiling ∧ sc.own.urgency ≤ 1000
    ∧ (sc.own.claimant = false → sc.own.ceiling = 0 ∧ sc.own.floor = 0 ∧ sc.own.urgency = 0)

/-! ## What the blocks know of each other -/

/-- PS's views, the walker's causes and the accept limit agree with the blocks that own them (R88, R91, R131, R135, R139, R143). -/
def State.viewsAgree (s : State) : Prop :=
  s.ps.viewState = s.pw.state
    ∧ s.ps.viewLinkLost = s.pw.holds.linkLost
    ∧ s.ps.viewMeterLost = s.pw.holds.meterLost
    ∧ s.ps.plugDetected = s.pl.plugClosed
    ∧ s.ps.linkWorking = s.pl.link.working
    ∧ s.ps.acceptLimit = s.pl.accept
    ∧ s.pw.holds.meterLost = s.ps.meterLost
    ∧ s.pw.holds.contactorFault = (s.ps.closeLatch || s.ps.weldLatch)
    ∧ s.pw.holds.linkLost = (decide (s.pl.link = .lost) && s.pw.van.isSome)

end Sys2Proof.Machine
end

