-- ==== Sys2Proof/Certificates/Slice0/Obligations.lean ====
section
/-! DEFINITION. The statements for the provers, in the order of the blocks. Every command answers a next state in this model (there is no
fault and no refusal), so each statement of a command's result is also where it completes. -/

open Sys2Proof Sys2Proof.Machine

/-! ## The queue of commands, and power-on -/

/-- A step with a command at the front of the queue is that command on the state with the queue's rest, and every command answers a next
state and leaves the waiting commands as they are. On an empty queue the part idles: that clause is the model's choice (log 2). -/
def Obligations.StepRunsFrontCommand : Prop :=
  (∀ (c : Instr) (s : State), step { s with pending := c :: s.pending } = exec c s)
    ∧ (∀ (c : Instr) (s : State), ∃ t, exec c s = .next t ∧ t.pending = s.pending)
    ∧ ∀ s : State, s.pending = [] → step s = .next s

/-- POWER_UP and BROWN_OUT: every block at its power-on values, the brown-out flag by the supply event, the weld latch by the sense, and the
image read begun, with the bits of 0x03 0x00 0x00 sent most significant bit first. These values are the model's, not the spec's: the
configuration and the station id before an image has been read (log 12), the recessive count 0 (log 5), the record of the last line clear 0
(log 8), the update age absent before ACTIVE (log 22), and the sense level, which comes with the command (log 11). -/
def Obligations.SupplyEventsResetEveryBlock : Prop :=
  ∀ (closed : Bool) (s : State),
    let sent : List Bool := List.replicate 6 false ++ [true, true] ++ List.replicate 16 false
    exec (.powerUp closed) s = .next
        { sl := ⟨.loading, false, 0, true, sent⟩, cfg := .none, li := .reset, dc := .reset, pv := .reset, sc := .reset,
          pw := .fresh closed, pl := .reset, ps := .fresh closed closed, pending := s.pending }
      ∧ exec (.brownOut closed) s = .next
        { sl := ⟨.loading, true, 0, true, sent⟩, cfg := .none, li := .reset, dc := .reset, pv := .reset, sc := .reset,
          pw := .fresh closed, pl := .reset, ps := .fresh closed closed, pending := s.pending }

/-- IMAGE_READ_COMPLETE, over any 768 serial bits, which are 96 bytes, most significant bit first (log 34). An image that passes R148: every
block starts its work at ACTIVE, the contactor is judged, and a weld found at power-on is reported. An image that fails it: CONFIG-FAULT,
the Line Interface in GAP, and nothing else. The first sample of the plug contact comes with the command (log 13), and the recessive count 0
as LOADING is left is the model's (log 5). -/
def Obligations.ImageReadEndsInActiveOrConfigFault : Prop :=
  let sampled (image : List Byte) : List Bool := image.flatMap fun b => [7, 6, 5, 4, 3, 2, 1, 0].map b.getLsbD
  (∀ bits : List Bool, bits.length = 768 → ∃ image : List Byte, image.length = 96 ∧ bits = sampled image)
  ∧ ∀ (image : List Byte) (contact : Bool) (s : State), s.sl.config = .loading → image.length = 96 →
    (imageValid (readImage image) = true →
      let started : State := { s with
        sl := { s.sl with config := .active, stationId := (readImage image).stationId, memorySelected := false },
        cfg := readImage image,
        li := { s.li with line := .gap, recessive := 0, rxBuffer := [] },
        sc := { s.sc with claimTimer := .running ((readImage image).stationId % 8 * 500) },
        pv := { s.pv with tallyTimer := .running 4000 },
        pl := { s.pl with contact := some contact, settle := if contact then .running 100 else .stopped },
        ps := PowerStage.judge true { s.ps with updateAge := some 0 } }
      exec (.imageReadComplete (sampled image) contact) s =
        .next (if s.ps.weldLatch then started.queueReport .fault s.pw.tag 5 else started))
      ∧ (imageValid (readImage image) = false →
        exec (.imageReadComplete (sampled image) contact) s = .next { s with
          sl := { s.sl with config := .configFault, stationId := (readImage image).stationId, memorySelected := false },
          li := { s.li with line := .gap, recessive := 0, rxBuffer := [] } })

/-- The checks of R148, each on the field as the image gives it, and where the image gives it (R161): the fields, the 12 window slots and
the 8 draw class codes. -/
def Obligations.ImageAcceptedWhenEveryCheckPasses : Prop :=
  (∀ c : Settings, imageValid c = true ↔
    (1 ≤ c.stationId ∧ c.stationId ≤ 62)
      ∧ (10 ≤ c.pMin ∧ c.pMin ≤ c.pBay ∧ c.pBay ≤ 1500)
      ∧ (1 ≤ c.rampStep ∧ c.rampStep ≤ c.pBay)
      ∧ c.marginPermille ≤ 200
      ∧ (100 ≤ c.cap ∧ c.cap ≤ 60000)
      ∧ c.fallbackLoad ≤ 60000
      ∧ c.defaultDeparture < 1440
      ∧ (c.defaultTarget ≤ 1000 ∧ c.taperSoc ≤ 1000)
      ∧ (c.warmAllotment ≤ 3000 ∧ c.cabinAllotment ≤ 3000)
      ∧ (c.pMin ≤ c.taperCeiling ∧ c.taperCeiling ≤ c.pBay)
      ∧ c.windowCount ≤ 12
      ∧ (∀ w ∈ c.windows.take c.windowCount, w.startMinute < w.stopMinute ∧ w.stopMinute ≤ 1440)
      ∧ ∀ k ∈ c.classCodes, k ≤ 4)
  ∧ ∀ img : List Byte, img.length = 96 →
      let at1 (n : Nat) : Nat := (img.getD n 0#8).toNat
      let at2 (n : Nat) : Nat := at1 n + 256 * at1 (n + 1)
      let on (n : Nat) : Bool := decide (at1 n ≠ 0)
      let markers (n : Nat) : Markers := ⟨(at1 n).testBit 0, (at1 n).testBit 1, (at1 n).testBit 2⟩
      let c := readImage img
      c = { stationId := at1 0, pBay := at2 1, pMin := at2 3, rampStep := at2 5, cap := at2 7, marginPermille := at1 9
            fallbackLoad := at2 10, defaultDeparture := at2 12, defaultTarget := at2 14, defaultCabin := on 16
            warmThreshold := if at1 17 < 128 then at1 17 else (at1 17 : Int) - 256
            warmAllotment := at2 18, taperSoc := at2 20, taperCeiling := at2 22, cabinWindow := at2 24, cabinAllotment := at2 26
            policyEnable := on 28, mapEnable := on 29, windowCount := at1 30, defaultEntry := markers 31
            windows := c.windows, classCodes := c.classCodes }
        ∧ c.windows.length = 12 ∧ c.classCodes.length = 8
        ∧ (∀ n < 12, c.windows[n]? = some ⟨at2 (32 + 5 * n), at2 (34 + 5 * n), markers (36 + 5 * n)⟩)
        ∧ ∀ n < 4, c.classCodes[2 * n]? = some (at1 (92 + n) % 16) ∧ c.classCodes[2 * n + 1]? = some (at1 (92 + n) / 16)

/-! ## The depot line: sending -/

/-- R16 at its three moments. A frame queued on a line in IDLE, not stuck and with a sender id is begun at once, and elsewhere it waits in
the queue; a REPORT is queued only while ACTIVE, with the depot minute of that moment. The end of a frame gap (FRAME_GAP_COMPLETE) and a
foreign start bit in IDLE (JOIN_FOREIGN_START): an attempt with the head frame where the conditions hold; and otherwise IDLE, or the foreign
frame received. A dominant level in GAP (DOMINANT_LEVEL_IN_GAP) restarts the count. An attempt drives the levels of the frame's bytes. What
the recessive count is left at is the model's reading (log 5). -/
def Obligations.AttemptBeginsWhenFreeToSend : Prop :=
  (∀ (s : State) (f : OwnFrame),
      queueFrame f s.li.queue ≠ []
        ∧ (s.li.line = .idle → s.li.stuck = false → validSender s.sl.stationId = true → ∀ e rest, queueFrame f s.li.queue = e :: rest →
          s.enqueue f = s.withLi { s.li with
            line := .sending, queue := { e with onLine := true } :: rest, output := .frame (frameLevels (ownFrameBytes s e.frame)) })
        ∧ (s.li.line ≠ .idle ∨ s.li.stuck = true ∨ validSender s.sl.stationId = false →
          s.enqueue f = s.withLi { s.li with queue := queueFrame f s.li.queue }))
  ∧ (∀ (s : State) (kind : ReportKind) (tag : VanTag) (detail : Nat),
      let minute := if s.dc.source = .unset then 0xFFFF else s.dc.time / 60
      (s.sl.config = .active → s.queueReport kind tag detail = s.enqueue (.report ⟨kind, tag, detail, minute⟩))
        ∧ (s.sl.config ≠ .active → s.queueReport kind tag detail = s))
  ∧ ∀ s : State, s.sl.config ≠ .loading →
    (s.li.line = .gap → exec .dominantLevelInGap s = .next (s.withLi { s.li with recessive := 0 }))
      ∧ (s.li.stuck = false → validSender s.sl.stationId = true → ∀ e rest, s.li.queue = e :: rest →
          (s.li.line = .gap → exec .frameGapComplete s = .next (s.withLi { s.li with
              line := .sending, recessive := 11, queue := { e with onLine := true } :: rest,
              output := .frame (frameLevels (ownFrameBytes s e.frame)) }))
            ∧ (s.li.line = .idle → exec .joinForeignStart s = .next (s.withLi { s.li with
              line := .sending, queue := { e with onLine := true } :: rest,
              output := .frame (frameLevels (ownFrameBytes s e.frame)) })))
      ∧ (s.li.stuck = false → s.li.queue = [] ∨ validSender s.sl.stationId = false → s.li.line = .gap →
          exec .frameGapComplete s = .next (s.withLi { s.li with line := .idle, recessive := 11 }))
      ∧ (s.li.queue = [] ∨ s.li.stuck = true ∨ validSender s.sl.stationId = false → s.li.line = .idle →
          exec .joinForeignStart s = .next (s.withLi { s.li with line := .receiving, rxBuffer := [] }))

/-- ARBITRATION_LOSS: the part leaves the line recessive and receives the winner's frame, and its own keeps its place and its retry count.
TRANSMIT_MISMATCH with the frame `e` on the line: the line clear of 24 bit times driven (a record of the model's, log 8) and the line left
recessive, GAP and one retry more; at the third the frame leaves the queue and TX-MISMATCH is set. The recessive count is the model's
reading (log 5). -/
def Obligations.CutAttemptsKeepOrDropTheFrame : Prop :=
  ∀ s : State, s.sl.config ≠ .loading → s.li.line = .sending →
    exec .arbitrationLoss s = .next (s.withLi { s.li with
        line := .receiving, rxBuffer := [], output := .recessive,
        queue := s.li.queue.map (fun e => { e with onLine := false, replaced := false }) })
      ∧ ∀ (before after : List QueueEntry) (e : QueueEntry), s.li.queue = before ++ e :: after → e.onLine = true →
          (∀ x ∈ before ++ after, x.onLine = false) →
        (e.retries + 1 < 3 → exec .transmitMismatch s = .next (s.withLi { s.li with
            line := .gap, recessive := 0, rxBuffer := [], output := .recessive, clearDriven := 24,
            queue := before ++ { e with onLine := false, replaced := false, retries := e.retries + 1 } :: after }))
          ∧ (3 ≤ e.retries + 1 → exec .transmitMismatch s = .next (s.withLi { s.li with
            line := .gap, recessive := 0, rxBuffer := [], output := .recessive, clearDriven := 24, queue := before ++ after,
            errors := { s.li.errors with txMismatch := true } }))

/-- FRAME_SENT_WHOLE with the frame `e`, not a DIAG, on the line: the valid count rises to 65535 at most, the line is left recessive, GAP,
and the frame leaves the queue; a CLAIM replaced on the line stays with its newer contents. DIAG_SENT_WHOLE with the DIAG `e` on the line:
the counts, the flags, line-stuck seen and the brown-out flag start anew, and the DIAG leaves the queue. The recessive count is the model's
reading (log 5). -/
def Obligations.FramesSentWholeLeaveTheQueue : Prop :=
  (∀ (s : State) (before after : List QueueEntry) (e : QueueEntry), s.sl.config ≠ .loading → s.li.line = .sending →
      s.li.queue = before ++ e :: after → e.onLine = true → (∀ x ∈ before ++ after, x.onLine = false) → e.frame ≠ .diag →
        exec .frameSentWhole s = .next (s.withLi { s.li with
          line := .gap, recessive := s.li.output.recessiveEnd, rxBuffer := [], output := .recessive,
          validCount := if s.li.validCount < 65535 then s.li.validCount + 1 else s.li.validCount,
          queue := if e.replaced then before ++ { e with onLine := false, replaced := false } :: after else before ++ after }))
  ∧ ∀ (s : State) (before after : List QueueEntry) (e : QueueEntry), s.sl.config ≠ .loading → s.li.line = .sending →
      s.li.queue = before ++ e :: after → e.onLine = true → (∀ x ∈ before ++ after, x.onLine = false) → e.frame = .diag →
        e.replaced = false →
        exec .diagSentWhole s = .next ((s.withLi { s.li with
          line := .gap, recessive := s.li.output.recessiveEnd, rxBuffer := [], output := .recessive,
          queue := before ++ after, validCount := 0, discardCount := 0,
          errors := ⟨false, false, false, false, false, false, false⟩, stuckSeen := false }).withSl
            { s.sl with brownOut := false })

/-- LINE_CLEAR by the line state. LINE_STUCK and LINE_STUCK_RELEASE; while the flag is set no attempt can begin, whatever the rest of the
state. The recessive count is the model's reading (log 5). -/
def Obligations.LineClearAndLineStuck : Prop :=
  (∀ s : State, s.sl.config ≠ .loading →
      (s.li.line = .receiving → s.li.rxBuffer ≠ [] → exec .lineClear s = .next (s.withLi { s.li with
          line := .gap, recessive := 0, rxBuffer := [], errors := { s.li.errors with clearInFrame := true } }))
        ∧ (s.li.line = .receiving → s.li.rxBuffer = [] → exec .lineClear s = .next (s.withLi { s.li with line := .gap, recessive := 0 }))
        ∧ (s.li.line = .idle ∨ s.li.line = .gap →
            exec .lineClear s = .next (s.withLi { s.li with line := .gap, recessive := 0, rxBuffer := [] })))
  ∧ ∀ s : State,
      (s.sl.config ≠ .loading → s.li.line ≠ .sending →
          exec .lineStuck s = .next (s.withLi { s.li with stuck := true, stuckSeen := true }))
        ∧ (s.sl.config ≠ .loading → s.li.stuck = true →
          exec .lineStuckRelease s = .next (s.withLi { s.li with line := .gap, recessive := 0, rxBuffer := [], stuck := false }))
        ∧ (s.li.stuck = true → s.trySend = s ∧ ∀ t, exec .joinForeignStart s = .next t → t.li.queue = s.li.queue ∧ t.li.output = s.li.output)

/-- What queueing a frame makes of a queue in class order. A CLAIM takes the place of one already queued, with the retry count at 0, and is
marked where the old one is on the line; a DIAG merges into one queued; any other frame joins after the frames of its class or a lower one.
A queue that would pass 4 frames first loses its oldest REPORT or DIAG that is not on the line. -/
def Obligations.QueuedFramesTakeTheirPlaces : Prop :=
  ∀ q : List QueueEntry, q.Pairwise (fun a b => a.frame.cls ≤ b.frame.cls) →
    (∀ (c old : ClaimContents) (before after : List QueueEntry) (e : QueueEntry), q = before ++ e :: after → e.frame = .claim old →
        (∀ x ∈ before ++ after, ∀ y, x.frame ≠ .claim y) →
          queueFrame (.claim c) q = before ++ { frame := .claim c, retries := 0, onLine := e.onLine, replaced := e.onLine } :: after)
      ∧ ((∃ x ∈ q, x.frame = .diag) → queueFrame .diag q = q)
      ∧ (q.length < 4 →
        (∀ c, (∀ x ∈ q, ∀ y, x.frame ≠ .claim y) → queueFrame (.claim c) q = ⟨.claim c, 0, false, false⟩ :: q)
          ∧ ((∀ x ∈ q, x.frame ≠ .diag) → queueFrame .diag q = q ++ [⟨.diag, 0, false, false⟩])
          ∧ ∀ r, queueFrame (.report r) q = q ++ [⟨.report r, 0, false, false⟩])
      ∧ ∀ (before after : List QueueEntry) (e : QueueEntry), q = before ++ e :: after → q.length = 4 → e.frame.cls = 3 →
          e.onLine = false → (∀ x ∈ before, x.frame.cls = 2 ∨ x.onLine = true) →
        (∀ c, (∀ x ∈ q, ∀ y, x.frame ≠ .claim y) →
            queueFrame (.claim c) q = ⟨.claim c, 0, false, false⟩ :: (before ++ after))
          ∧ ((∀ x ∈ q, x.frame ≠ .diag) → queueFrame .diag q = before ++ after ++ [⟨.diag, 0, false, false⟩])
          ∧ ∀ r, queueFrame (.report r) q = before ++ after ++ [⟨.report r, 0, false, false⟩]

/-! ## The depot line: frames -/

/-- A header byte's data bits in line order, and the class and sender read back from it. The check register: from 0, for each data bit in
line order, compare bit 7 with the bit, shift up, and where they differed invert bits 2, 1 and 0. A frame the part sends ends in the check
value over its header, kind, length and payload, and a received check byte is compared with the value over the bytes taken. On the line a
byte is a dominant start bit, its eight data bits and a recessive stop bit, and the bytes of a frame follow each other at once. -/
def Obligations.HeaderAndCheckValueInLineOrder : Prop :=
  (∀ cls id : Nat, cls < 4 → 1 ≤ id → id ≤ 62 →
      dataBits (headerByte cls id) =
          [cls.testBit 1, cls.testBit 0, id.testBit 5, id.testBit 4, id.testBit 3, id.testBit 2, id.testBit 1, id.testBit 0]
        ∧ headerClass (headerByte cls id) = cls ∧ headerSender (headerByte cls id) = id)
  ∧ (∀ bs : List Byte, crc8 bs = (bs.flatMap fun b => (List.range 8).map b.getLsbD).foldl
      (fun (r : Byte) (d : Bool) => if r.getLsbD 7 = d then r <<< 1 else (r <<< 1) ^^^ 0b111#8) 0#8)
  ∧ (∀ (cls id kind : Nat) (payload : List Byte),
      let taken := headerByte cls id :: BitVec.ofNat 8 kind :: BitVec.ofNat 8 payload.length :: payload
      frameBytes cls id kind payload = taken ++ [crc8 taken])
  ∧ (∀ (taken : List Byte) (check : Byte), checkAgrees taken check = true ↔ crc8 taken = check)
  ∧ (∀ b : Byte, lineLevels b = [false, b.getLsbD 0, b.getLsbD 1, b.getLsbD 2, b.getLsbD 3, b.getLsbD 4, b.getLsbD 5, b.getLsbD 6,
      b.getLsbD 7, true])
  ∧ ∀ (b : Byte) (bs : List Byte), frameLevels (b :: bs) = lineLevels b ++ frameLevels bs

/-- The frames the part sends carry their fields where the layouts place them: a CLAIM, a REPORT with its kind's code, and a DIAG with its
error and state flags as the part stands, least significant byte first. And a CLAIM as one DW481 sends it is accepted by another, which
reads the sender and every field the part uses as they were sent. -/
def Obligations.SentFramesCarryTheirFields : Prop :=
  let at8 (v n : Nat) : Byte := BitVec.ofNat 8 (v / 2 ^ (8 * n))
  (∀ (s : State) (c : ClaimContents), ∃ flags : Byte,
      ownFrameBytes s (.claim c) = frameBytes 2 s.sl.stationId 1
          [at8 c.time 0, at8 c.time 1, at8 c.time 2, at8 c.floor 0, at8 c.floor 1, at8 c.ceiling 0, at8 c.ceiling 1, at8 c.urgency 0,
            at8 c.urgency 1, at8 c.draw 0, at8 c.draw 1, at8 c.forecast 0, at8 c.forecast 1, flags]
        ∧ ∀ i, flags.getLsbD i = (decide (i = 0) && c.atRisk))
  ∧ (∀ (s : State) (r : ReportContents),
      let code : Byte := match r.kind with
        | .arrival => 1#8
        | .planTaken => 2#8
        | .planRefused => 3#8
        | .stepEnd => 4#8
        | .atRisk => 5#8
        | .done => 6#8
        | .cancelled => 7#8
        | .departed => 8#8
        | .fault => 9#8
      let tag := r.tag.toNat
      ownFrameBytes s (.report r) = frameBytes 3 s.sl.stationId 6
        [code, at8 tag 0, at8 tag 1, at8 tag 2, at8 tag 3, at8 tag 4, at8 tag 5, at8 r.detail 0, at8 r.detail 1, at8 r.minute 0,
          at8 r.minute 1])
  ∧ (∀ s : State, ∃ errors state : Byte,
      ownFrameBytes s .diag = frameBytes 3 s.sl.stationId 7
          [at8 s.li.validCount 0, at8 s.li.validCount 1, at8 s.li.discardCount 0, errors, state, at8 s.pv.entries.length 0]
        ∧ (List.range 8).map errors.getLsbD = [s.li.errors.opening, s.li.errors.byte, s.li.errors.clearInFrame, s.li.errors.check,
            s.li.errors.length, s.li.errors.unexpected, s.li.errors.txMismatch, false]
        ∧ (List.range 8).map state.getLsbD = [decide (s.sl.config = .configFault), s.sl.brownOut, s.ps.weldLatch, s.ps.closeLatch,
            decide (0 < s.sc.conflictHold), s.li.stuckSeen, false, false])
  ∧ ∀ (id : Nat) (c : ClaimContents), validSender id = true →
    c.time < 2 ^ 24 → c.floor < 2 ^ 16 → c.ceiling < 2 ^ 16 → c.urgency < 2 ^ 16 → c.draw < 2 ^ 16 →
      ∃ (body : List Byte) (check : Byte), frameBytes 2 id 1 c.payload = body ++ [check] ∧ completesFrame 1 body check = true
        ∧ readClaim body = ⟨id, c.time, c.floor, c.ceiling, c.urgency, c.draw⟩

/-! ## The depot line: receiving -/

/-- BYTE_TAKEN: a byte that stands where the frame expects it, and passes the check of its place, joins the receive buffer. A length byte
fits where it is the payload size of a kind of the table, and at most 24 for any other kind. OPENING_FAILURE, MISSING_STOP_BIT and
TRUNCATION: the flag, the frame dropped, and GAP, from which a truncation passes to IDLE at once and to an attempt where R16 allows one. The
recessive counts are the model's reading (log 5). -/
def Obligations.BytesJoinTheBufferOrDropTheFrame : Prop :=
  (∀ kind length : Nat, lengthFits kind length = true ↔
      (kind = 1 ∧ length = 14) ∨ (kind = 2 ∧ length = 8) ∨ (kind = 3 ∧ length = 16) ∨ (kind = 4 ∧ length = 8)
        ∨ (kind = 5 ∧ length = 1) ∨ (kind = 6 ∧ length = 11) ∨ (kind = 7 ∧ length = 6)
        ∨ ((kind = 0 ∨ 8 ≤ kind) ∧ length ≤ 24))
  ∧   (∀ (b : Byte) (s : State), s.sl.config ≠ .loading → s.li.line = .receiving →
      ((s.li.rxBuffer = [] ∧ 1 ≤ headerSender b ∧ headerSender b ≤ 62)
          ∨ s.li.rxBuffer.length = 1
          ∨ (s.li.rxBuffer.length = 2 ∧ lengthFits (frameKind s.li.rxBuffer) b.toNat = true)
          ∨ (3 ≤ s.li.rxBuffer.length ∧ s.li.rxBuffer.length < 3 + frameLength s.li.rxBuffer)) →
        exec (.byteTaken b) s = .next (s.withLi { s.li with rxBuffer := s.li.rxBuffer ++ [b] }))
  ∧ ∀ s : State, s.sl.config ≠ .loading → s.li.line = .receiving →
      (s.li.rxBuffer = [] →
          exec (.openingFailure .framing) s = .next (s.withLi { s.li with
              line := .gap, recessive := 0, rxBuffer := [], errors := { s.li.errors with opening := true } })
            ∧ ∀ h : Byte, headerSender h = 0 ∨ headerSender h = 63 → exec (.openingFailure (.badSender h)) s = .next (s.withLi { s.li with
              line := .gap, recessive := recessiveTail h, rxBuffer := [], errors := { s.li.errors with opening := true } }))
        ∧ (s.li.rxBuffer ≠ [] →
          exec .missingStopBit s = .next (s.withLi { s.li with
              line := .gap, recessive := 0, rxBuffer := [], errors := { s.li.errors with byte := true } })
            ∧ exec .truncation s = .next (State.trySend (s.withLi { s.li with
              line := .idle, recessive := 21, rxBuffer := [], errors := { s.li.errors with byte := true } })))

/-- LENGTH_FAILURE, CHECK_FAILURE and UNEXPECTED_FRAME: the flag, the discard count up to 255, the frame dropped, GAP. A frame is expected
where its kind is one of the table in its class; a SITE is of class 0 with its over-cap flag set and of class 1 without. An accepted frame
that no block takes: another bay's REPORT or DIAG (OTHER_REPORT_RECEIVED), and in CONFIG-FAULT any CLAIM, SITE, PLAN or CANCEL. The valid
count rises to 65535 at most, the line state is GAP, and nothing else changes. The recessive count is the model's (log 5). -/
def Obligations.RefusedAndUnownedFramesAreCounted : Prop :=
  (∀ buf : List Byte,
      let cls := 2 * (if (buf.getD 0 0#8).getLsbD 0 then 1 else 0) + if (buf.getD 0 0#8).getLsbD 1 then 1 else 0
      let kind := (buf.getD 1 0#8).toNat
      frameExpected buf = true ↔
        (kind = 1 ∧ cls = 2) ∨ (kind = 2 ∧ cls = if (buf.getD 10 0#8).getLsbD 0 then 0 else 1)
          ∨ ((kind = 3 ∨ kind = 4 ∨ kind = 5) ∧ cls = 1) ∨ ((kind = 6 ∨ kind = 7) ∧ cls = 3))
  ∧   (∀ (s : State) (b : Byte), s.sl.config ≠ .loading → s.li.line = .receiving →
      (s.li.rxBuffer.length = 2 → lengthFits (frameKind s.li.rxBuffer) b.toNat = false →
          exec (.lengthFailure b) s = .next (s.withLi { s.li with
            line := .gap, recessive := recessiveTail b, rxBuffer := [], errors := { s.li.errors with length := true },
            discardCount := if s.li.discardCount < 255 then s.li.discardCount + 1 else s.li.discardCount }))
        ∧ (3 ≤ s.li.rxBuffer.length → s.li.rxBuffer.length = 3 + frameLength s.li.rxBuffer → crc8 s.li.rxBuffer ≠ b →
          exec (.checkFailure b) s = .next (s.withLi { s.li with
            line := .gap, recessive := recessiveTail b, rxBuffer := [], errors := { s.li.errors with check := true },
            discardCount := if s.li.discardCount < 255 then s.li.discardCount + 1 else s.li.discardCount }))
        ∧ (3 ≤ s.li.rxBuffer.length → s.li.rxBuffer.length = 3 + frameLength s.li.rxBuffer → crc8 s.li.rxBuffer = b →
            frameExpected s.li.rxBuffer = false →
          exec (.unexpectedFrame b) s = .next (s.withLi { s.li with
            line := .gap, recessive := recessiveTail b, rxBuffer := [], errors := { s.li.errors with unexpected := true },
            discardCount := if s.li.discardCount < 255 then s.li.discardCount + 1 else s.li.discardCount })))
  ∧ ∀ (s : State) (check : Byte), s.sl.config ≠ .loading → s.li.line = .receiving →
      let counted := s.withLi { s.li with
        line := .gap, recessive := recessiveTail check, rxBuffer := [],
        validCount := if s.li.validCount < 65535 then s.li.validCount + 1 else s.li.validCount }
      (completesFrame 6 s.li.rxBuffer check = true ∨ completesFrame 7 s.li.rxBuffer check = true →
          exec (.otherReportReceived check) s = .next counted)
        ∧ (s.sl.config = .configFault →
          (completesFrame 1 s.li.rxBuffer check = true → exec (.claimReceived check) s = .next counted)
            ∧ (completesFrame 2 s.li.rxBuffer check = true → exec (.siteReceived check) s = .next counted)
            ∧ (completesFrame 3 s.li.rxBuffer check = true → exec (.planReceived check) s = .next counted)
            ∧ (completesFrame 4 s.li.rxBuffer check = true → exec (.cancelReceived check) s = .next counted))

/-- DIAG_ASK_RECEIVED: a target of 0, or the station id where it lies in 1 to 62, queues a DIAG or merges into one queued; any other changes
no more than the count. The recessive count is the model's (log 5). -/
def Obligations.DiagAskQueuesOneDiag : Prop :=
  ∀ (s : State) (check : Byte), s.sl.config ≠ .loading → s.li.line = .receiving → completesFrame 5 s.li.rxBuffer check = true →
    let counted := s.withLi { s.li with
      line := .gap, recessive := recessiveTail check, rxBuffer := [],
      validCount := if s.li.validCount < 65535 then s.li.validCount + 1 else s.li.validCount }
    let target := fieldAt (framePayload s.li.rxBuffer) 0 1
    (target = 0 ∨ (target = s.sl.stationId ∧ 1 ≤ target ∧ target ≤ 62) →
        exec (.diagAskReceived check) s = .next (counted.withLi { counted.li with
          queue := if s.li.queue.any QueueEntry.isDiag then s.li.queue
            else insertEntry ⟨.diag, 0, false, false⟩ (displace s.li.queue) }))
      ∧ (¬ (target = 0 ∨ (target = s.sl.stationId ∧ 1 ≤ target ∧ target ≤ 62)) → exec (.diagAskReceived check) s = .next counted)

/-! ## The depot clock -/

/-- OSCILLATOR_SECOND: a SET clock advances by one second, wraps at 86400, and where the minute changes the walker takes the minute roll; an
UNSET one stays. ANCHOR_LAPSE at age 600: PEER, the time and the age kept. A lapse that finds the clock not ANCHORED, or its age below 600,
changes nothing (log 1). That the age stops at 600 while the lapse waits its turn is the model's reading (log 26), and so is that a request
placed by the minute roll begins after it (log 10). -/
def Obligations.SecondsAdvanceTheClock : Prop :=
  ∀ s : State, s.dc.time < 86400 →
    (s.dc.source = .unset → exec .oscillatorSecond s = .next s)
      ∧ (s.dc.source ≠ .unset →
        let later := s.withDc
          { time := if s.dc.time = 86399 then 0 else s.dc.time + 1
            secondPhase := 0
            source := s.dc.source
            anchorAge := if s.dc.source = .anchored ∧ s.dc.anchorAge < 600 then s.dc.anchorAge + 1 else s.dc.anchorAge }
        (s.dc.time % 60 ≠ 59 → exec .oscillatorSecond s = .next later.settleLink)
          ∧ (s.dc.time % 60 = 59 → exec .oscillatorSecond s = .next (State.settleLink (later.minuteRoll false))))
      ∧ (s.dc.source = .anchored → 600 ≤ s.dc.anchorAge →
        exec .anchorLapse s = .next (s.withDc { s.dc with source := .peer }))
      ∧ (s.dc.source ≠ .anchored ∨ s.dc.anchorAge < 600 → exec .anchorLapse s = .next s)

/-- Offered times: an anchor is adopted where the clock is UNSET or it lies 2 s or more away the short way round the day, and otherwise only
restarts the anchor age; a peer time is adopted where the clock is UNSET, or PEER and it lies 1 to 43200 s ahead. An adoption restarts the
second and rolls the minute where the minute changes, as the clock set event where the clock was UNSET. A field from 86400 on, the unset
marker 0xFFFFFF among them, is not offered. That an adoption out of UNSET in minute 0 is the clock set event too is the model's choice (log
30). -/
def Obligations.OfferedTimesByTheShortWay : Prop :=
  (∀ (s : State) (t : Nat), 86400 ≤ t → s.offerAnchor t = s ∧ s.offerPeerTime t = s)
  ∧ ∀ (s : State) (t : Nat), s.dc.time < 86400 → t < 86400 →
    let d : Int := ((t : Int) - (s.dc.time : Int)) % 86400
    let adopt (source : ClockSource) (age : Nat) : State :=
      let moved := s.withDc { time := t, secondPhase := 0, source := source, anchorAge := age }
      if s.dc.source = .unset then moved.minuteRoll true
      else if t / 60 = s.dc.time / 60 then moved
      else moved.minuteRoll false
    (s.dc.source = .unset → s.offerAnchor t = adopt .anchored 0 ∧ s.offerPeerTime t = adopt .peer s.dc.anchorAge)
      ∧ (s.dc.source ≠ .unset → 2 ≤ d → d ≤ 86398 → s.offerAnchor t = adopt .anchored 0)
      ∧ (s.dc.source ≠ .unset → d < 2 ∨ 86398 < d → s.offerAnchor t = s.withDc { s.dc with source := .anchored, anchorAge := 0 })
      ∧ (s.dc.source = .peer → 1 ≤ d → d ≤ 43200 → s.offerPeerTime t = adopt .peer s.dc.anchorAge)
      ∧ (s.dc.source = .peer → d < 1 ∨ 43200 < d → s.offerPeerTime t = s)
      ∧ (s.dc.source = .anchored → s.offerPeerTime t = s)

/-! ## The peer view -/

/-- CLAIM_RECEIVED in ACTIVE: another station's CLAIM goes to the view; one with the own id sets the conflict hold to 15 and, with the guard
stopped, starts the guard and is reported; and the time field is offered as a peer time after that (log 14). The recessive count is the
model's reading (log 5), and so is that a request this places begins at the command's end (log 10). -/
def Obligations.ClaimReachesViewThenClock : Prop :=
  ∀ (s : State) (check : Byte), s.sl.config = .active → s.li.line = .receiving → completesFrame 1 s.li.rxBuffer check = true →
    let counted := s.withLi { s.li with
      line := .gap, recessive := recessiveTail check, rxBuffer := [],
      validCount := if s.li.validCount < 65535 then s.li.validCount + 1 else s.li.validCount }
    let c := readClaim s.li.rxBuffer
    let held := counted.withSc { s.sc with conflictHold := 15 }
    (c.sender ≠ s.sl.stationId →
        exec (.claimReceived check) s =
          .next (State.settleLink (State.offerPeerTime c.time (counted.withPv (s.pv.takeClaim c)))))
      ∧ (c.sender = s.sl.stationId → s.pv.conflictGuard.isRunning = true →
        exec (.claimReceived check) s = .next (State.settleLink (held.offerPeerTime c.time)))
      ∧ (c.sender = s.sl.stationId → s.pv.conflictGuard.isRunning = false →
        exec (.claimReceived check) s = .next (State.settleLink (State.offerPeerTime c.time
          (State.queueReport .fault s.pw.tag 1 (held.withPv { s.pv with conflictGuard := .running 60000 })))))

/-- What another station's CLAIM makes of a table in order: its adjusted fields at age 0, LIVE, in the place of the sender's entry, as a new
entry, or in the place of the STALE entry of greatest age and, among equal ages, highest id; and where the table is full of LIVE entries,
its draw in the accumulator and the table as it was. The table stays in order. -/
def Obligations.ViewTakesEveryPeerClaim : Prop :=
  ∀ (own : Nat) (pv : PeerView) (c : RxClaim), pv.tableOk own → c.sender ≠ own →
    let ceiling := if 9999 < c.ceiling then 9999 else c.ceiling
    let floor := if 9999 < c.floor then 9999 else c.floor
    let e : PeerEntry :=
      { id := c.sender
        floor := if ceiling < floor then ceiling else floor
        ceiling := ceiling
        urgency := if ceiling = 0 then 0 else if 1000 < c.urgency then 1000 else c.urgency
        draw := if 9999 < c.draw then 9999 else c.draw
        age := 0
        stale := false }
    let pv' := pv.takeClaim c
    pv'.tableOk own ∧ pv'.tallyTimer = pv.tallyTimer ∧ pv'.conflictGuard = pv.conflictGuard
      ∧ ((∃ x ∈ pv.entries, x.id = c.sender) →
        pv'.unlistedDraw = pv.unlistedDraw ∧ pv'.entries.length = pv.entries.length
          ∧ ∀ x, x ∈ pv'.entries ↔ x = e ∨ (x ∈ pv.entries ∧ x.id ≠ c.sender))
      ∧ ((∀ x ∈ pv.entries, x.id ≠ c.sender) → pv.entries.length < 48 →
        pv'.unlistedDraw = pv.unlistedDraw ∧ pv'.entries.length = pv.entries.length + 1
          ∧ ∀ x, x ∈ pv'.entries ↔ x = e ∨ x ∈ pv.entries)
      ∧ ((∀ x ∈ pv.entries, x.id ≠ c.sender) → pv.entries.length = 48 →
        (∀ old ∈ pv.entries, old.stale = true →
            (∀ y ∈ pv.entries, y.stale = true → y.age < old.age ∨ (y.age = old.age ∧ y.id ≤ old.id)) →
          pv'.unlistedDraw = pv.unlistedDraw ∧ pv'.entries.length = 48
            ∧ ∀ x, x ∈ pv'.entries ↔ x = e ∨ (x ∈ pv.entries ∧ x ≠ old))
          ∧ ((∀ y ∈ pv.entries, y.stale = false) →
            pv'.entries = pv.entries
              ∧ pv'.unlistedDraw = if 9999 < pv.unlistedDraw + e.draw then 9999 else pv.unlistedDraw + e.draw))

/-- TALLY_EXPIRY: every entry a tally period older, STALE at age 3, gone at age 8, and the timer on again at 4 s.
CONFLICT_REPORT_GUARD_EXPIRY: the guard stopped. -/
def Obligations.TallyAgesEveryEntry : Prop :=
  ∀ s : State,
    (s.pv.tallyTimer.isRunning = true →
      exec .tallyExpiry s = .next (s.withPv { s.pv with
        tallyTimer := .running 4000,
        entries := s.pv.entries.filterMap fun e =>
          if 8 ≤ e.age + 1 then none
          else some { e with age := e.age + 1, stale := if e.age = 2 then true else e.stale } }))
      ∧ (s.pv.conflictGuard.isRunning = true →
        exec .conflictReportGuardExpiry s = .next (s.withPv { s.pv with conflictGuard := .stopped }))

/-! ## The site frame and the share -/

/-- SITE_RECEIVED in ACTIVE: the site record, the shed where the frame's over-cap flag is set, and the time field offered as an anchor last
(log 14). The fields stand where the layout places them. The recessive count is the model's reading (log 5), and so is that a request this
places begins at the command's end (log 10). -/
def Obligations.SiteFrameReachesItsBlocks : Prop :=
  (∀ h k n t0 t1 t2 b0 b1 m0 m1 f : Byte,
      readSite [h, k, n, t0, t1, t2, b0, b1, m0, m1, f] =
        ⟨t0.toNat + 256 * t1.toNat + 65536 * t2.toNat, b0.toNat + 256 * b1.toNat, m0.toNat + 256 * m1.toNat, f.getLsbD 0⟩)
  ∧   ∀ (s : State) (check : Byte), s.sl.config = .active → s.li.line = .receiving → completesFrame 2 s.li.rxBuffer check = true →
    let f := readSite s.li.rxBuffer
    let recorded := (s.withLi { s.li with
      line := .gap, recessive := recessiveTail check, rxBuffer := [],
      validCount := if s.li.validCount < 65535 then s.li.validCount + 1 else s.li.validCount }).withSc
        { s.sc with siteLoad := some (if 60000 < f.building then 60000 else f.building), freshness := 4 }
    (f.overCap = false → exec (.siteReceived check) s = .next (State.settleLink (recorded.offerAnchor f.time)))
      ∧ (f.overCap = true → exec (.siteReceived check) s =
        .next (State.settleLink ((recorded.withPs (s.ps.shed s.cfg f.total)).offerAnchor f.time)))

/-- The own ceiling is the least of its terms, 0 where that is below P_min or the programme is not RUNNING; the required power is the need
over the time left, rounded up and at most 9999. The own claim of an expiry: a non-claimant in the four cases, and otherwise a claimant with
its floor and its urgency, rounded up and at most 1000; and the at-risk flag. -/
def Obligations.OwnCeilingNeedAndClaim : Prop :=
  (∀ s : State,
      (s.pw.state ≠ .running → s.expiryCeiling = 0)
        ∧ (∀ p st, s.pw.state = .running → s.pw.atStep = some (p, st) →
          let a := s.lookup st.kind
          let terms := [s.cfg.pBay, s.pl.accept, st.ceiling, a.term] ++ if a.permit then [] else [0]
          ∃ m ∈ terms, (∀ x ∈ terms, m ≤ x) ∧ s.expiryCeiling = if m < s.cfg.pMin then 0 else m)
        ∧ (s.pw.energyNeed = 0 → s.expiryRequired = 0)
        ∧ (0 < s.pw.energyNeed → s.pw.deadline ≤ s.dc.minute → s.expiryRequired = 9999)
        ∧ (0 < s.pw.energyNeed → s.dc.minute < s.pw.deadline →
          let left := s.pw.deadline - s.dc.minute
          s.expiryRequired ≤ 9999 ∧ (∀ n < s.expiryRequired, n * left < s.pw.energyNeed * 60)
            ∧ (s.expiryRequired < 9999 → s.pw.energyNeed * 60 ≤ s.expiryRequired * left)))
  ∧ ∀ s : State,
      let m := s.expiryCeiling
      let required := s.expiryRequired
      let claim := s.expiryClaim
      (claim.atRisk = true ↔ claim.urgency = 1000 ∨ (s.sc.prevClaimant = true ∧ s.sc.lastPosted < s.sc.prevFloor))
        ∧ (s.dc.source = .unset ∨ 0 < s.sc.conflictHold ∨ m = 0 ∨ required = 0 →
          claim.claimant = false ∧ claim.floor = 0 ∧ claim.ceiling = 0 ∧ claim.urgency = 0)
        ∧ (s.dc.source ≠ .unset → s.sc.conflictHold = 0 → m ≠ 0 → required ≠ 0 →
          claim.claimant = true ∧ claim.ceiling = m ∧ claim.floor = min (max required s.cfg.pMin) m
            ∧ claim.urgency ≤ 1000 ∧ (∀ n < claim.urgency, n * m < required * 1000)
            ∧ (claim.urgency < 1000 → required * 1000 ≤ claim.urgency * m)
            ∧ s.cfg.pMin ≤ claim.floor ∧ claim.floor ≤ m ∧ 1 ≤ claim.urgency)

/-- What the Share Computer reads from the walker: in a walking state by the current step, and 0 elsewhere. -/
def Obligations.WalkerHandsNeedAndDeadline : Prop :=
  ∀ pw : Walker,
    (pw.state.walking = false → pw.energyNeed = 0 ∧ pw.deadline = 0 ∧ pw.totalRemaining = 0 ∧ pw.stepCeiling = 0)
      ∧ ∀ (before after : List ProgStep) (st : ProgStep) (p : WalkerPos) (plan : Plan), pw.state.walking = true →
          pw.steps = before ++ st :: after → pw.pos = some p → p.index = before.length → pw.held = some plan →
          pw.steps.Pairwise (fun a b => a.kind.code < b.kind.code) →
        pw.stepCeiling = st.ceiling
          ∧ pw.totalRemaining = min (p.remaining + (after.map ProgStep.amount).sum) 3000
          ∧ (st.kind = .cabin → pw.energyNeed = min p.remaining 3000 ∧ pw.deadline = plan.departure)
          ∧ (st.kind ≠ .cabin →
            pw.energyNeed = min (p.remaining + ((after.filter (fun x => x.kind ≠ .cabin)).map ProgStep.amount).sum) 3000
              ∧ (∀ heat ∈ after, heat.kind = .cabin → ∀ n, heat.notBefore = some n → pw.deadline = n)
              ∧ ((∀ x ∈ after, x.kind ≠ .cabin) → pw.deadline = plan.departure))

/-- The snapshot of the view and the budget formed from it: nothing below 0. -/
def Obligations.BudgetFromTheSnapshot : Prop :=
  ∀ (c : Settings) (sc : ShareComputer) (pv : PeerView) (load : Nat),
    (sc.freshness = 0 → load = c.fallbackLoad) → (0 < sc.freshness → sc.siteLoad = some load) →
      let live := pv.entries.filter (fun e => !e.stale)
      let stale := pv.entries.filter (fun e => e.stale)
      let margin := c.cap * c.marginPermille / 1000
      pv.snapshot.claimants = (live.filter (fun e => 0 < e.ceiling)).map (fun e => ⟨e.id, e.floor, e.ceiling, e.urgency⟩)
        ∧ pv.snapshot.nonClaimantDraw = ((live.filter (fun e => e.ceiling = 0)).map PeerEntry.draw).sum
        ∧ pv.snapshot.staleDraw = (stale.map PeerEntry.draw).sum
        ∧ pv.snapshot.unlistedDraw = pv.unlistedDraw
        ∧ (budgetOf c sc pv.snapshot : Int) = max 0 ((c.cap : Int) - margin - load - pv.snapshot.nonClaimantDraw
            - pv.snapshot.staleDraw - pv.snapshot.unlistedDraw)

/-- The own share, with the own claim at its place among the peers: Case A where the budget holds every floor, Case B where it does not, and
0 for a non-claimant. -/
def Obligations.OwnShareByCase : Prop :=
  ∀ (c : Settings) (own : OwnClaim) (budget : Nat) (ahead behind : List Claimant),
    (own.claimant = false → ownShare c own budget (ahead ++ behind) = 0)
      ∧ (own.claimant = true →
        (∀ x ∈ ahead, own.urgency < x.urgency ∨ (x.urgency = own.urgency ∧ x.id < c.stationId)) →
        (∀ x ∈ behind, x.urgency < own.urgency ∨ (x.urgency = own.urgency ∧ c.stationId < x.id)) →
        (∀ x ∈ ahead, x.id ≠ c.stationId) →
          let floors := ((ahead ++ behind).map Claimant.floor).sum + own.floor
          let headrooms := ((ahead ++ behind).map (fun x => x.ceiling - x.floor)).sum + (own.ceiling - own.floor)
          let extra := if headrooms = 0 then 0 else (budget - floors) * (own.ceiling - own.floor) / headrooms
          let grant := min own.floor (budget - (ahead.map Claimant.floor).sum)
          (floors ≤ budget → ownShare c own budget (ahead ++ behind) = min (own.floor + extra) own.ceiling)
            ∧ (budget < floors → ownShare c own budget (ahead ++ behind) = if grant < c.pMin then 0 else grant))

/-- The share an expiry posts is 0 or lies between P_min and the own ceiling; a claimant's floor is at least P_min and at most its ceiling;
its share is at least its floor in Case A, and in Case B its floor, a partial grant of at least P_min, or 0. -/
def Obligations.ShareStaysInBounds : Prop :=
  ∀ s : State, (∀ e ∈ s.pv.entries, e.id ≠ s.cfg.stationId) →
    let own := s.expiryClaim
    let floors := own.floor + ((s.pv.entries.filter (fun e => !e.stale && 0 < e.ceiling)).map PeerEntry.floor).sum
    let budget := budgetOf s.cfg s.sc s.pv.snapshot
    (s.expiryShare = 0 ∨ (s.cfg.pMin ≤ s.expiryShare ∧ s.expiryShare ≤ s.expiryCeiling)) ∧ s.expiryShare ≤ s.cfg.pBay
      ∧ (own.claimant = true → s.cfg.pMin ≤ own.floor ∧ own.floor ≤ s.expiryCeiling
        ∧ (floors ≤ budget → own.floor ≤ s.expiryShare)
        ∧ (budget < floors → s.expiryShare = 0 ∨ (s.cfg.pMin ≤ s.expiryShare ∧ s.expiryShare ≤ own.floor)))

/-- Bays that hold the same claims and the same budget never share out more than the budget between them, whatever each one's P_min. -/
def Obligations.SharesTogetherFitTheBudget : Prop :=
  ∀ (budget : Nat) (l : List Claimant) (cfg : Claimant → Settings),
    l.Pairwise (fun a b => standsBefore a.urgency a.id b.urgency b.id = true) → l.Pairwise (fun a b => a.id ≠ b.id) →
      (∀ x ∈ l, x.floor ≤ x.ceiling ∧ (cfg x).stationId = x.id) →
        (l.map fun x => ownShare (cfg x) ⟨true, x.floor, x.ceiling, x.urgency, false⟩ budget
          (l.filter fun y => decide (y.id ≠ x.id))).sum ≤ budget

/-- CLAIM_PERIOD_EXPIRY: the share posted, 0 under a conflict hold, and the contactor judged anew where the walker takes the gate; the CLAIM
queued, in place of any older one; what the next expiry reads stored; the gate reported to the walker where it has a current step; the
accumulator read and cleared; and the timer on again at 4 s. That the last good ceiling is the m of R60, also in a conflict hold, is the
model's choice (log 33). -/
def Obligations.ClaimPeriodExpiryPostsClaimsAndStores : Prop :=
  ∀ s : State, s.sc.claimTimer.isRunning = true →
    ∃ t, exec .claimPeriodExpiry s = .next t
      ∧ t.ps.target = s.expiryShare ∧ t.ps.shedHold = s.ps.shedHold - 1 ∧ (0 < s.sc.conflictHold → t.ps.target = 0)
      ∧ t.pv = { s.pv with unlistedDraw := 0 }
      ∧ t.sc =
        { claimTimer := .running 4000
          own := s.expiryClaim
          prevClaimant := s.expiryClaim.claimant
          prevFloor := s.expiryClaim.floor
          fullUrgency := decide (s.expiryClaim.urgency = 1000)
          lastPosted := s.expiryShare
          siteLoad := s.sc.siteLoad
          freshness := s.sc.freshness - 1
          conflictHold := s.sc.conflictHold - 1
          lastGoodCeiling := if s.ps.meterLost then s.sc.lastGoodCeiling else s.expiryCeiling }
      ∧ t.dc = s.dc ∧ t.cfg = s.cfg ∧ t.sl = s.sl
      ∧ (∀ p st, s.pw.current = some (p, st) → t.pw.holds = { s.pw.holds with
          gateClosed := !(s.lookup st.kind).permit || decide ((s.lookup st.kind).term = 0) })
      ∧ (s.pw.current = none → t.pw = s.pw)
      ∧ (let posted := s.ps.takePosting s.cfg s.expiryShare
        (s.pw.current = none → t.ps = posted)
          ∧ ∀ p st, s.pw.current = some (p, st) → t.ps = PowerStage.judge s.active { posted with
            viewState := t.pw.state, viewLinkLost := t.pw.holds.linkLost, viewMeterLost := t.pw.holds.meterLost })
      ∧ (let contents : ClaimContents :=
          { time := if s.dc.source = .unset then 0xFFFFFF else s.dc.time
            floor := s.expiryClaim.floor
            ceiling := s.expiryClaim.ceiling
            urgency := s.expiryClaim.urgency
            draw := if s.ps.meterLost then s.sc.lastGoodCeiling else if s.ps.updateTaken then s.ps.draw else 0
            forecast :=
              if s.dc.source = .unset ∨ t.ps.setpoint = 0 then 0xFFFF
              else min (s.dc.time / 60 + (s.pw.totalRemaining * 60 + (t.ps.setpoint - 1)) / t.ps.setpoint) 1439
            atRisk := s.expiryClaim.atRisk }
        (∃ e ∈ t.li.queue, e.frame = .claim contents) ∧ (∀ e ∈ t.li.queue, ∀ c, e.frame = .claim c → c = contents)
          ∧ (s.sl.config = .active → s.expiryClaim.atRisk = true → s.sc.own.atRisk = false →
            ∃ e ∈ t.li.queue, e.frame = .report ⟨.atRisk, s.pw.tag, contents.forecast, s.dc.reportMinute⟩))

/-! ## The setpoint -/

/-- How a posting, a new accept limit and a shed move the setpoint. -/
def Obligations.SetpointMovesByPostingLimitAndShed : Prop :=
  ∀ (c : Settings) (ps : PowerStage) (share limit total : Nat),
    let limited (lim v : Nat) : Nat := if min v lim < c.pMin then 0 else min v lim
    (∃ v, ps.takePosting c share = { ps with target := share, shedHold := ps.shedHold - 1, setpoint := limited ps.acceptLimit v }
        ∧ (ps.contactor ≠ .isClosed ∨ ps.meterLost = true → v = 0)
        ∧ (ps.contactor = .isClosed → ps.meterLost = false →
          (share < ps.setpoint → v = share)
            ∧ (ps.setpoint < share → ps.shedHold = 0 → ps.setpoint = 0 → v = min share (max c.pMin c.rampStep))
            ∧ (ps.setpoint < share → ps.shedHold = 0 → ps.setpoint ≠ 0 → v = min share (ps.setpoint + c.rampStep))
            ∧ (ps.setpoint = share ∨ (ps.setpoint < share ∧ 0 < ps.shedHold) → v = ps.setpoint)))
      ∧ (ps.takePosting c share).setpoint ≤ ps.setpoint + max c.pMin c.rampStep
      ∧ (0 < ps.shedHold → (ps.takePosting c share).setpoint ≤ ps.setpoint)
      ∧ ps.takeAcceptLimit c.pMin limit =
        { ps with acceptLimit := limit, setpoint := if limit < ps.setpoint then (if limit < c.pMin then 0 else limit) else ps.setpoint }
      ∧ (let cut := ps.setpoint * (c.cap - c.cap * c.marginPermille / 1000) / total
        ps.shed c total =
          { ps with shedHold := 3, setpoint := if c.cap < total then (if cut < c.pMin then 0 else cut) else ps.setpoint })

/-! ## The policy lookup -/

/-- A lookup reads the full-urgency mark, the pack temperature of the last status, the clock source and the depot minute as they stand. The
entry it applies: the open entry with the policy off, the default entry with the clock UNSET or the map off, else the lowest counted window
that holds the minute, else the default entry; and the term and the permit gate it returns. -/
def Obligations.PolicyLookupAnswers : Prop :=
  (∀ (s : State) (kind : StepKind), s.lookup kind = lookupPolicy s.cfg
      { kind := kind
        late := s.sc.fullUrgency
        temperature := s.pl.status.map LinkStatus.temperature
        clockSet := decide (s.dc.source ≠ .unset)
        minute := s.dc.time / 60 })
  ∧   ∀ (c : Settings) (i : LookupInput),
    (c.policyEnable = false → applyingEntry c i.clockSet i.minute = ⟨false, true, true⟩ ∧ lookupPolicy c i = ⟨c.pBay, true⟩)
      ∧ (c.policyEnable = true → i.clockSet = false ∨ c.mapEnable = false →
        applyingEntry c i.clockSet i.minute = c.defaultEntry)
      ∧ (c.policyEnable = true → i.clockSet = true → c.mapEnable = true →
        (∀ n w, n < c.windowCount → c.windows[n]? = some w → w.startMinute ≤ i.minute → i.minute < w.stopMinute →
            (∀ k v, k < n → c.windows[k]? = some v → ¬ (v.startMinute ≤ i.minute ∧ i.minute < v.stopMinute)) →
          applyingEntry c i.clockSet i.minute = w.markers)
          ∧ ((∀ n w, n < c.windowCount → c.windows[n]? = some w → ¬ (w.startMinute ≤ i.minute ∧ i.minute < w.stopMinute)) →
          applyingEntry c i.clockSet i.minute = c.defaultEntry))
      ∧ (c.policyEnable = true → ∀ code,
        let m := applyingEntry c i.clockSet i.minute
        let cold : Bool := match i.temperature with | some t => t < c.warmThreshold | none => false
        c.classCodes[(if m.restricted then 4 else 0) + (if i.late then 2 else 0) + (if cold then 1 else 0)]? = some code →
          (lookupPolicy c i).permit = (if i.kind = .bulk ∨ i.kind = .taper then m.bulkPermit else m.warmPermit)
            ∧ (code = 0 → (lookupPolicy c i).term = c.pBay)
            ∧ (code = 1 → (lookupPolicy c i).term = c.pBay / 2)
            ∧ (code = 2 → (lookupPolicy c i).term = c.pMin)
            ∧ (code = 3 → (lookupPolicy c i).term = if i.kind = .warmPack then c.pBay else c.pMin)
            ∧ (code = 4 → (lookupPolicy c i).term = 0))

/-! ## The programme -/

/-- The steps a build forms: WARM-PACK, BULK, TAPER and CABIN in that order with the amounts, ceilings and marks of R94, those of amount 0
left out, and the end flag on the last one alone; with a target and a state of charge in permille, BULK and TAPER add up to the need. -/
def Obligations.BuildFormsTheSteps : Prop :=
  ∀ (c : Settings) (plan : Plan) (van : AttachedVan) (st : VanStatus),
    let up (top : Nat) : Nat := if st.soc < top then ((top - st.soc) * van.capacity + 999) / 1000 else 0
    let bulk := up (min plan.target c.taperSoc)
    let one (amount : Nat) (x : ProgStep) : List ProgStep := if amount = 0 then [] else [x]
    let warm := if st.temperature < c.warmThreshold then c.warmAllotment else 0
    let taper := min (up plan.target) van.capacity - bulk
    let cabin := if plan.cabin then c.cabinAllotment else 0
    let steps := buildSteps c plan van st
    steps.map (fun x => { x with last := false }) =
        one warm ⟨.warmPack, warm, c.pBay, none, false, false⟩ ++ one bulk ⟨.bulk, bulk, c.pBay, none, false, false⟩
          ++ one taper ⟨.taper, taper, c.taperCeiling, none, false, false⟩
          ++ one cabin ⟨.cabin, cabin, c.pBay, some (plan.departure - c.cabinWindow), true, false⟩
      ∧ (∀ (n : Nat) (x : ProgStep), steps[n]? = some x → (x.last = true ↔ n + 1 = steps.length))
      ∧ steps.length ≤ 4 ∧ steps.Pairwise (fun a b => a.kind.code < b.kind.code)
      ∧ (plan.target ≤ 1000 → up plan.target ≤ van.capacity ∧ bulk ≤ up plan.target ∧ bulk + taper = up plan.target)

/-- Where no plan is held, no van is attached, no status is known or the clock is UNSET, a build waits: AWAITING with the plan slot as it
is, no programme, and Power Stage Control told (log 23, for the walking states and DONE, where no run finds this). A build from a held plan,
an attached van, a known status and a SET clock places a STATUS, also where it forms no steps (log 28). No steps: DONE and its report.
Steps: the first one current, at its whole amount, its gate looked up and the state check run. A step whose heater mark is set has its
heaters asked off first; in DONE none is consulted (log 15). -/
def Obligations.BuildEntersTheFirstStep : Prop :=
  (∀ s : State, s.pw.held = none ∨ s.pw.van = none ∨ s.pw.status = none ∨ s.dc.source = .unset →
      let before := match s.pw.current with
        | some (p, _) => if p.heaterMark then s.placeHeater ⟨false, false⟩ else s
        | none => s
      s.buildOrAwait = State.tellPower (before.withPw { s.pw with state := .awaiting, steps := [], pos := none }))
  ∧ ∀ (s : State) (plan : Plan) (van : AttachedVan) (st : VanStatus), s.pw.held = some plan → s.pw.van = some van → s.pw.status = some st →
    s.dc.source ≠ .unset →
      let before := match s.pw.current with
        | some (p, _) => if p.heaterMark then s.placeHeater ⟨false, false⟩ else s
        | none => s
      let asked := before.placeStatus
      (buildSteps s.cfg plan van st = [] → s.buildOrAwait = State.queueReport .done van.tag 0 (State.tellPower
          (asked.withPw { s.pw with state := .done, steps := [], pos := none, defaultTimer := .stopped })))
        ∧ ∀ first rest, buildSteps s.cfg plan van st = first :: rest →
          s.buildOrAwait = State.stateCheck (asked.withPw { s.pw with
            steps := first :: rest, pos := some ⟨0, first.amount, 0, false, false⟩, defaultTimer := .stopped,
            holds := { s.pw.holds with gateClosed := !(asked.lookup first.kind).permit || decide ((asked.lookup first.kind).term = 0) } })

/-- The state check at the step the walker stands on: HELD with a hold cause, else WAITING before the not-before minute of a step not
started, else RUNNING, which sets the started mark and, where the heater mark is clear, asks the step's heater on and sets it; Power Stage
Control is told the state and the link LOST and meter lost causes. A minute roll runs it in a walking state, and the clock set event builds
in AWAITING where a plan and a status are held; elsewhere a minute roll changes nothing. -/
def Obligations.StateCheckTakesTheFirstCase : Prop :=
  (∀ s : State,
      (s.pw.state.walking = true → ∀ b, s.minuteRoll b = s.stateCheck)
        ∧ (s.pw.state = .awaiting → s.pw.held.isSome = true → s.pw.status.isSome = true → s.minuteRoll true = s.buildOrAwait)
        ∧ (s.pw.state = .awaiting → s.pw.held = none ∨ s.pw.status = none → s.minuteRoll true = s)
        ∧ (s.pw.state.walking = false → s.minuteRoll false = s)
        ∧ (s.pw.state.walking = false → s.pw.state ≠ .awaiting → s.minuteRoll true = s))
  ∧ ∀ (s : State) (p : WalkerPos) (st : ProgStep), s.pw.atStep = some (p, st) →
    let told (u : State) : State := u.withPs (PowerStage.judge u.active { u.ps with
      viewState := u.pw.state, viewLinkLost := u.pw.holds.linkLost, viewMeterLost := u.pw.holds.meterLost })
    let cause := s.pw.holds.gateClosed || s.pw.holds.linkLost || s.pw.holds.meterLost || s.pw.holds.contactorFault
    let heater : Option Heaters := match st.kind with | .warmPack => some ⟨true, false⟩ | .cabin => some ⟨false, true⟩ | _ => none
    let early := ∃ n, st.notBefore = some n ∧ s.dc.time / 60 < n ∧ p.started = false
    (cause = true → s.stateCheck = told (s.withPw { s.pw with state := .held }))
      ∧ (cause = false → early → s.stateCheck = told (s.withPw { s.pw with state := .waiting }))
      ∧ (cause = false → ¬ early →
        (heater = none ∨ p.heaterMark = true → s.stateCheck = told (s.withPw { s.pw with
            state := .running, pos := some { p with started := true } }))
          ∧ ∀ h, heater = some h → p.heaterMark = false → s.stateCheck = told ((s.placeHeater h).withPw { s.pw with
            state := .running, pos := some { p with started := true, heaterMark := true } }))

/-- ENERGY_PULSE: in a walking state a pulse raises the carry, at the hundredth the carry restarts, the remaining energy falls and the
delivered count rises, and the step ends at 0; elsewhere it is not counted. The end of the current step, `refusal` where a refusal report
has taken the place of its STEP-END: the heaters asked off, the report, and then the rebuild from a queued revision, DONE at the end flag,
or the change to the next step. That the requests begin at the end of a pulse is the model's reading (log 10). -/
def Obligations.PulsesCountEnergyAndEndSteps : Prop :=
  (∀ s : State,
      (s.pw.state.walking = false → exec .energyPulse s = .next s.settleLink)
        ∧ ∀ (p : WalkerPos) (st : ProgStep), s.pw.state.walking = true → s.pw.atStep = some (p, st) →
          let counted := s.withPw { s.pw with
            pos := some { p with carry := 0, remaining := p.remaining - 1 }
            delivered := if s.pw.delivered < 65535 then s.pw.delivered + 1 else s.pw.delivered }
          (p.carry + 1 < 100 → exec .energyPulse s =
              .next (State.settleLink (s.withPw { s.pw with pos := some { p with carry := p.carry + 1 } })))
            ∧ (100 ≤ p.carry + 1 → 1 < p.remaining → exec .energyPulse s = .next counted.settleLink)
            ∧ (100 ≤ p.carry + 1 → p.remaining ≤ 1 → exec .energyPulse s = .next (State.settleLink (counted.endStep false))))
  ∧ ∀ (s : State) (p : WalkerPos) (st : ProgStep) (refusal : Bool), s.pw.state.walking = true → s.pw.atStep = some (p, st) →
      let off := if p.heaterMark then s.placeHeater ⟨false, false⟩ else s
      let told := if st.notify = true ∧ refusal = false then off.queueReport .stepEnd s.pw.tag st.kind.code else off
      (∀ plan, s.pw.revision = some plan →
          s.endStep refusal = State.buildOrAwait (told.withPw { s.pw with held := some plan, revision := none }))
        ∧ (s.pw.revision = none → st.last = true → s.endStep refusal = State.queueReport .done s.pw.tag 0 (State.tellPower
            (told.withPw { s.pw with state := .done, pos := some { p with remaining := 0 } })))
        ∧ ∀ nextStep, s.pw.revision = none → st.last = false → s.pw.steps[p.index + 1]? = some nextStep →
            let asked := told.placeStatus
            s.endStep refusal = State.stateCheck (asked.withPw { s.pw with
              pos := some ⟨p.index + 1, nextStep.amount, p.carry, false, false⟩
              holds := { s.pw.holds with
                gateClosed := !(asked.lookup nextStep.kind).permit || decide ((asked.lookup nextStep.kind).term = 0) } })

/-- PLAN_RECEIVED in ACTIVE: the time field is offered as an anchor, and the walker, as it stands after that (log 14), ignores the plan,
refuses it, keeps it as the queued revision while RUNNING, or holds it and builds where it can, after the PLAN-TAKEN report (log 16). The
fields stand where the layout places them. The recessive count is the model's reading (log 5), and so is that a request this places begins
at the command's end (log 10). -/
def Obligations.PlansAreJudgedAndTaken : Prop :=
  (∀ h k n t0 t1 t2 v0 v1 v2 v3 v4 v5 n0 n1 d0 d1 g0 g1 f : Byte,
      let buf := [h, k, n, t0, t1, t2, v0, v1, v2, v3, v4, v5, n0, n1, d0, d1, g0, g1, f]
      readPlanTime buf = t0.toNat + 256 * t1.toNat + 65536 * t2.toNat
        ∧ readPlan buf = ⟨v5 ++ v4 ++ v3 ++ v2 ++ v1 ++ v0, n0.toNat + 256 * n1.toNat, d0.toNat + 256 * d1.toNat,
          g0.toNat + 256 * g1.toNat, f.getLsbD 0⟩)
  ∧   (∀ (s : State) (check : Byte), s.sl.config = .active → s.li.line = .receiving → completesFrame 3 s.li.rxBuffer check = true →
    let counted := s.withLi { s.li with
      line := .gap, recessive := recessiveTail check, rxBuffer := [],
      validCount := if s.li.validCount < 65535 then s.li.validCount + 1 else s.li.validCount }
    exec (.planReceived check) s = .next (State.settleLink
      (State.judgePlan (readPlan s.li.rxBuffer) (counted.offerAnchor (readPlanTime s.li.rxBuffer)))))
  ∧ ∀ (s : State) (plan : Plan) (van : AttachedVan),
    (s.pw.state = .empty → s.judgePlan plan = s)
      ∧ (s.pw.van = some van → van.tag ≠ plan.tag → s.judgePlan plan = s)
      ∧ (s.pw.state ≠ .empty → s.pw.van = some van → van.tag = plan.tag →
        let older := ∃ q : Plan, (s.pw.held = some q ∨ s.pw.revision = some q) ∧ plan.serial ≤ q.serial
        let undone := ∃ n, s.pw.cancelled = some n ∧ plan.serial ≤ n
        let kept : Plan := { plan with target := if 1000 < plan.target then 1000 else plan.target }
        (1440 ≤ plan.departure → s.judgePlan plan = s.queueReport .planRefused van.tag plan.serial)
          ∧ (plan.departure < 1440 → s.pw.state ≠ .aborted → older → s.judgePlan plan = s)
          ∧ (plan.departure < 1440 → s.pw.state = .aborted → undone → s.judgePlan plan = s)
          ∧ (plan.departure < 1440 → s.pw.state = .running → ¬ older → s.judgePlan plan =
            State.queueReport .planTaken van.tag plan.serial (s.withPw { s.pw with revision := some kept }))
          ∧ (plan.departure < 1440 → s.pw.state ≠ .running → (s.pw.state ≠ .aborted ∧ ¬ older) ∨ (s.pw.state = .aborted ∧ ¬ undone) →
            s.judgePlan plan = State.buildOrAwait (State.queueReport .planTaken van.tag plan.serial
              (s.withPw { s.pw with held := some kept, revision := none, cancelled := none, defaultTimer := .stopped }))))

/-- CANCEL_RECEIVED in ACTIVE: where it names the attached van and its serial is at least the held plan's, the heaters are asked off where
the current step had asked them on, and the walker is ABORTED with the serial kept; any other changes nothing but the valid count. The
fields stand where the layout places them. DEFAULT_PLAN_TIMER_EXPIRY: the image's default plan held, reported (log 16) and built where it
can be. The current step is held in the walking states only (log 15); the recessive count (log 5) and the end of the command as the moment
at which requests begin (log 10) are the model's reading. -/
def Obligations.CancelsAndTheDefaultPlan : Prop :=
  (∀ h k n v0 v1 v2 v3 v4 v5 n0 n1 : Byte,
      let buf := [h, k, n, v0, v1, v2, v3, v4, v5, n0, n1]
      readCancelTag buf = v5 ++ v4 ++ v3 ++ v2 ++ v1 ++ v0 ∧ readCancelSerial buf = n0.toNat + 256 * n1.toNat)
  ∧   (∀ (s : State) (check : Byte), s.sl.config = .active → s.li.line = .receiving → completesFrame 4 s.li.rxBuffer check = true →
    let counted := s.withLi { s.li with
      line := .gap, recessive := recessiveTail check, rxBuffer := [],
      validCount := if s.li.validCount < 65535 then s.li.validCount + 1 else s.li.validCount }
    let tag := readCancelTag s.li.rxBuffer
    let serial := readCancelSerial s.li.rxBuffer
    (∀ (van : AttachedVan) (plan : Plan), s.pw.van = some van → s.pw.held = some plan → van.tag = tag → plan.serial ≤ serial →
        let off := match s.pw.current with
          | some (p, _) => if p.heaterMark then counted.placeHeater ⟨false, false⟩ else counted
          | none => counted
        exec (.cancelReceived check) s = .next (State.settleLink (State.queueReport .cancelled van.tag 0 (State.tellPower
          (off.withPw { s.pw with
            state := .aborted, held := none, revision := none, cancelled := some serial, steps := [], pos := none,
            defaultTimer := .stopped, holds := { s.pw.holds with gateClosed := false } })))))
      ∧ (s.pw.held = none ∨ s.pw.van.map AttachedVan.tag ≠ some tag ∨ (∃ plan, s.pw.held = some plan ∧ serial < plan.serial) →
        exec (.cancelReceived check) s = .next counted.settleLink))
  ∧ ∀ (s : State) (van : AttachedVan), s.pw.state = .awaiting → s.pw.held = none → s.pw.van = some van →
      s.pw.defaultTimer.isRunning = true →
        exec .defaultPlanTimerExpiry s = .next (State.settleLink (State.buildOrAwait (State.queueReport .planTaken van.tag 0
          (s.withPw { s.pw with
            held := some ⟨van.tag, 0, s.cfg.defaultDeparture, s.cfg.defaultTarget, s.cfg.defaultCabin⟩, defaultTimer := .stopped }))))

/-- A fresh arrival, the link LOST, the same van regained and a different one, at the walker: in the walking states the state check runs,
and in the others the cause is recorded and Power Stage Control is told. -/
def Obligations.VansComeAndGoAtTheWalker : Prop :=
  ∀ (s : State) (tag : VanTag) (capacity : Nat),
    let arrival (u : State) : State := State.queueReport .arrival tag 0 (State.placeStatus (State.tellPower (u.withPw { u.pw with
      state := .awaiting, van := some ⟨tag, capacity⟩, status := none, delivered := 0, defaultTimer := .running 300000,
      holds := { u.pw.holds with linkLost := false } })))
    (s.pw.state = .empty → s.vanIdentified tag capacity = arrival s ∧ s.differentVan tag capacity = arrival s)
      ∧ (s.pw.state ≠ .empty → s.differentVan tag capacity = arrival (State.tellPower
          ((s.queueReport .departed s.pw.tag s.pw.delivered).withPw { s.pw with
            state := .empty, van := none, status := none, held := none, revision := none, cancelled := none, steps := [], pos := none,
            defaultTimer := .stopped, holds := { s.pw.holds with gateClosed := false, linkLost := false } })))
      ∧ (s.pw.state.walking = true → s.sameVan =
          State.stateCheck (s.placeStatus.withPw { s.pw with holds := { s.pw.holds with linkLost := false } }))
      ∧ (s.pw.state.walking = true → s.pw.van.isSome = true → s.linkLostReport =
          State.stateCheck (s.withPw { s.pw with holds := { s.pw.holds with linkLost := true } }))
      ∧ (s.pw.state.walking = false → s.sameVan =
          State.tellPower (s.placeStatus.withPw { s.pw with holds := { s.pw.holds with linkLost := false } }))
      ∧ (s.pw.state.walking = false → s.pw.van.isSome = true → s.linkLostReport =
          State.tellPower (s.withPw { s.pw with holds := { s.pw.holds with linkLost := true } }))
      ∧ (s.pw.van = none → s.linkLostReport = s)
      ∧ (∀ u : State, u.tellPower = u.withPs (PowerStage.judge u.active { u.ps with
          viewState := u.pw.state, viewLinkLost := u.pw.holds.linkLost, viewMeterLost := u.pw.holds.meterLost }))

/-! ## The plug link -/

/-- PLUG_CONTACT_CHANGE: the settle time runs from the last change while the contact differs from the plug state. PLUG_CLOSED: a link reset
at once, in RESETTING with both counts at 0, and Power Stage Control is told the plug is detected. -/
def Obligations.PlugContactAndPlugClosed : Prop :=
  ∀ s : State,
    (∀ b : Bool, s.sl.config = .active → s.pl.contact = some (!b) →
      exec (.plugContactChange b) s = .next (s.withPl { s.pl with
        contact := some b, settle := if s.pl.plugClosed = b then .stopped else .running 100 }))
      ∧ (s.pl.settle.isRunning = true → s.pl.contact = some true → s.pl.plugClosed = false →
        exec .plugClosed s = .next ((s.withPl { s.pl with
          plugClosed := true, settle := .stopped, link := .resetting, failures := 0, misses := 0, resetOnLine := true,
          output := .linkReset, resetWait := .stopped, exchange := none, busyWait := .stopped }).withPs
            (PowerStage.judge s.active { s.ps with plugDetected := true })))

/-- PLUG_OPEN: the link UNPLUGGED with everything of the van cleared and the accept power 0; the walker EMPTY, with a DEPARTED report for a
van it held; at Power Stage Control the setpoint 0, the contactor neither closing nor closed, and the close latch cleared, which takes
CLOSE-FAULT to OPEN. The contactor fault cause goes with the close latch where no weld is latched. In OPENING the opening goes on (log 9).
-/
def Obligations.PlugOpenClearsTheVan : Prop :=
  ∀ s : State, s.pl.settle.isRunning = true → s.pl.contact = some false → s.pl.plugClosed = true →
    ∃ t, exec .plugOpen s = .next t
      ∧ t.pl = { PlugLink.reset with contact := some false }
      ∧ t.pw = { Walker.reset with
          delivered := s.pw.delivered
          holds := ⟨false, false, s.pw.holds.meterLost, s.pw.holds.contactorFault && s.ps.weldLatch⟩ }
      ∧ t.ps.setpoint = 0 ∧ t.ps.acceptLimit = 0 ∧ t.ps.plugDetected = false ∧ t.ps.linkWorking = false ∧ t.ps.viewState = .empty
      ∧ t.ps.closeLatch = false ∧ t.ps.closeMisses = 0 ∧ t.ps.retryWait = .stopped
      ∧ t.ps.weldLatch = s.ps.weldLatch ∧ t.ps.target = s.ps.target ∧ t.ps.shedHold = s.ps.shedHold ∧ t.ps.draw = s.ps.draw
      ∧ t.ps.contactor ≠ .closing ∧ t.ps.contactor ≠ .isClosed
      ∧ (s.ps.contactor = .closeFault → s.ps.weldLatch = false → t.ps.contactor = .isOpen)
      ∧ (∀ phase, s.ps.contactor = .opening phase → t.ps.contactor = .opening phase)
      ∧ t.li = (if s.pw.state = .empty then s.li else (s.queueReport .departed s.pw.tag s.pw.delivered).li)
      ∧ t.sl = s.sl ∧ t.cfg = s.cfg ∧ t.dc = s.dc ∧ t.pv = s.pv ∧ t.sc = s.sc

/-- Link resets. LINK_RESET_RESULT: presence is a line that goes low 60 to 240 microseconds after release and is high again by 500; it
begins an IDENT, and without it RESETTING waits 1 s for the next reset and passes to LOST at the sixth miss, while a recovery attempt in
LOST ends. RESET_RETRY_WAIT_EXPIRY and RECOVERY_TIMER_EXPIRY send a link reset. A recovery attempt still running at its expiry gives way
(log 17). -/
def Obligations.LinkResetsFindPresence : Prop :=
  ∀ s : State,
    (∀ (fellAt : Option Nat) (high : Bool), s.pl.resetOnLine = true →
      let present := ∃ n, fellAt = some n ∧ 60 ≤ n ∧ n ≤ 240 ∧ high = true
      let ended := { s.pl with resetOnLine := false, output := LinkOutput.released }
      let asked := { s.pl with resetOnLine := false, exchange := some ⟨.ident, 0, 0⟩, output := .command (writeSlots [0x11#8]) }
      (s.pl.link = .resetting → present →
          exec (.linkResetResult fellAt high) s = .next (s.withPl { asked with misses := 0, link := .identifying }))
        ∧ (s.pl.link = .resetting → ¬ present → s.pl.misses + 1 ≤ 5 →
          exec (.linkResetResult fellAt high) s =
            .next (s.withPl { ended with misses := s.pl.misses + 1, resetWait := .running 1000 }))
        ∧ (s.pl.link = .resetting → ¬ present → 6 ≤ s.pl.misses + 1 →
          exec (.linkResetResult fellAt high) s = .next (State.enterLost (s.withPl { ended with misses := s.pl.misses + 1 })))
        ∧ (s.pl.link = .lost → present → exec (.linkResetResult fellAt high) s = .next (s.withPl asked))
        ∧ (s.pl.link = .lost → ¬ present → exec (.linkResetResult fellAt high) s = .next (s.withPl ended)))
      ∧ (let sent := { s.pl with
            resetOnLine := true, output := LinkOutput.linkReset, resetWait := .stopped, exchange := none, busyWait := .stopped }
        (s.pl.link = .resetting → s.pl.resetWait.isRunning = true → exec .resetRetryWaitExpiry s = .next (s.withPl sent))
          ∧ (s.pl.link = .lost → s.pl.recoveryTimer.isRunning = true →
            exec .recoveryTimerExpiry s = .next (s.withPl { sent with recoveryTimer := .running 10000 })))

/-- The link entering LOST: the exchange and every wait over, the accept power 0 and the setpoint with it, the walker's link LOST cause
where a van is attached, Power Stage Control told, and a FAULT report with the last identity's tag. The request set, the identity and the
last status stay. -/
def Obligations.LostLinkHoldsAndReports : Prop :=
  ∀ s : State,
    let t := s.enterLost
    t.pl.link = .lost ∧ t.pl.exchange = none ∧ t.pl.resetOnLine = false ∧ t.pl.resetWait = .stopped ∧ t.pl.busyWait = .stopped
      ∧ t.pl.pause = .stopped ∧ t.pl.accept = 0 ∧ t.pl.pollTimer = .stopped ∧ t.pl.recoveryTimer = .running 10000
      ∧ t.pl.wantStatus = s.pl.wantStatus ∧ t.pl.wantHeater = s.pl.wantHeater
      ∧ t.pl.identity = s.pl.identity ∧ t.pl.status = s.pl.status ∧ t.pl.heaterWanted = s.pl.heaterWanted
      ∧ t.ps.acceptLimit = 0 ∧ t.ps.linkWorking = false ∧ t.ps.setpoint = 0
      ∧ t.ps.contactor ≠ .closing ∧ t.ps.contactor ≠ .isClosed
      ∧ t.pw.van = s.pw.van ∧ t.pw.held = s.pw.held ∧ t.pw.steps = s.pw.steps ∧ (s.pw.van.isSome = true → t.pw.holds.linkLost = true)
      ∧ (s.pw.state.walking = true → s.pw.van.isSome = true → s.pw.atStep ≠ none → t.pw.state = .held)
      ∧ (s.sl.config = .active → ∃ e ∈ t.li.queue,
          e.frame = .report ⟨.fault, (s.pl.identity.map VanIdentity.tag).getD 0#48, 2, s.dc.reportMinute⟩)

/-- Bytes go in bit slots, each byte least significant bit first, and a reply is read from its slots as it was sent: the status, the data
and check byte that a VALID IDENT or STATUS has, and the stop slot. The verdict on a reply, by the first case that holds. A VALID reply to
HEATER has no data and no check byte (log 24). -/
def Obligations.RepliesAreJudged : Prop :=
  (writeSlots [] = [] ∧ ∀ (b : Byte) (bs : List Byte), writeSlots (b :: bs) = [b.getLsbD 0, b.getLsbD 1, b.getLsbD 2, b.getLsbD 3,
      b.getLsbD 4, b.getLsbD 5, b.getLsbD 6, b.getLsbD 7] ++ writeSlots bs)
  ∧ (∀ (status : Byte) (stop : Bool) (r : LinkReply), r.slots = writeSlots [status] ++ [stop] → r.status = status ∧ r.stopSlot = stop)
  ∧ (∀ (status : Byte) (data : List Byte) (check : Byte) (stop : Bool) (r : LinkReply),
      r.slots = writeSlots ([status] ++ data ++ [check]) ++ [stop] →
        r.status = status ∧ r.data = data ∧ r.check = check ∧ r.stopSlot = stop)
  ∧ (∀ (cmd : LinkCommand) (r : LinkReply), replyFits cmd r = true ↔ r.slots.length =
      if r.status = 0x5A#8 then (match cmd with | .ident => 97 | .status => 65 | .heater _ => 9) else 9)
  ∧ ∀ (cmd : LinkCommand) (r : LinkReply),
    let checked := cmd = .ident ∨ cmd = .status
    (r.stopSlot = true → judgeReply cmd r = .bad)
      ∧ (r.stopSlot = false →
        (r.status ≠ 0x5A#8 → r.status ≠ 0x3C#8 → r.status ≠ 0x66#8 → judgeReply cmd r = .bad)
          ∧ (r.status = 0x5A#8 → checked → crc8 (r.status :: r.data) ≠ r.check → judgeReply cmd r = .bad)
          ∧ (r.status = 0x3C#8 → judgeReply cmd r = .busy)
          ∧ (r.status = 0x66#8 → judgeReply cmd r = .refused)
          ∧ (r.status = 0x5A#8 → ¬ checked ∨ crc8 (r.status :: r.data) = r.check → judgeReply cmd r = .valid))

/-- A reply to the exchange in flight, by IDENT_REPLY, STATUS_REPLY or HEATER_REPLY: up to 8 busy replies are polled again after 50 ms and
up to 2 bad ones asked again at once, each count apart; past that, or refused, an IDENT fails into a new reset 1 s later or LOST at the
third failure, a recovery attempt ends with nothing changed, and a STATUS or HEATER fails into READY with a service pause and its request
back in the set, or LOST at the third failure. -/
def Obligations.BusyBadAndFailedExchanges : Prop :=
  ∀ (s : State) (r : LinkReply) (e : Exchange), s.pl.exchange = some e → s.pl.busyWait.isRunning = false → replyFits e.command r = true →
    let reply : Instr := match e.command with
      | .ident => .identReply r
      | .status => .statusReply r
      | .heater _ => .heaterReply r
    let verdict := judgeReply e.command r
    let ended := { s.pl with exchange := none, busyWait := Timer.stopped, output := LinkOutput.released }
    let back := match e.command with
      | .ident => ended
      | .status => { ended with wantStatus := true }
      | .heater h => { ended with wantHeater := some (s.pl.wantHeater.getD h) }
    let failed := (verdict = .busy ∧ 9 ≤ e.busy + 1) ∨ (verdict = .bad ∧ 3 ≤ e.bad + 1) ∨ (verdict = .refused ∧ ∀ h, e.command ≠ .heater h)
    (verdict = .busy → e.busy + 1 ≤ 8 → exec reply s = .next (s.withPl { s.pl with
        exchange := some { e with busy := e.busy + 1 }, busyWait := .running 50, output := .released }))
      ∧ (verdict = .bad → e.bad + 1 ≤ 2 → exec reply s = .next (s.withPl { s.pl with
        exchange := some { e with bad := e.bad + 1 }, output := .command (writeSlots e.command.bytes) }))
      ∧ (failed → e.command = .ident → s.pl.link = .lost → exec reply s = .next (s.withPl ended))
      ∧ (failed → e.command = .ident → s.pl.link ≠ .lost → s.pl.failures + 1 < 3 → exec reply s = .next (s.withPl { ended with
        failures := s.pl.failures + 1, link := .resetting, misses := 0, resetWait := .running 1000 }))
      ∧ (failed → e.command ≠ .ident → s.pl.failures + 1 < 3 → exec reply s = .next (s.withPl { back with
        failures := s.pl.failures + 1, link := .ready, pause := .running 1000 }))
      ∧ (failed → e.command ≠ .ident ∨ s.pl.link ≠ .lost → 3 ≤ s.pl.failures + 1 →
        exec reply s = .next (State.enterLost (s.withPl { back with failures := s.pl.failures + 1 })))

/-- IDENT_REPLY with a valid reply: the identity put in range and recorded, the failure count 0, the link READY with the poll timer at 10 s
and Power Stage Control told the link works. In IDENTIFYING the walker is told of the van. In LOST the same tag regains the van, and another
one, or the first, clears the request set, the last status and the heater wanted and comes as a different van. That the requests begin at
the command's end is the model's reading (log 10). -/
def Obligations.ValidIdentMakesTheLinkReady : Prop :=
  ∀ (s : State) (r : LinkReply) (busy bad : Nat), s.pl.exchange = some ⟨.ident, busy, bad⟩ → s.pl.busyWait.isRunning = false →
    replyFits .ident r = true → judgeReply .ident r = .valid →
      let field (off n : Nat) : Nat := leNat ((r.data.drop off).take n)
      let v : VanIdentity := ⟨BitVec.ofNat 48 (field 0 6), min (field 6 2) 3000, min (field 8 2) 9999⟩
      let known := { s.pl with
        exchange := none, busyWait := Timer.stopped, output := LinkOutput.released, failures := 0, link := .ready, identity := some v,
        pollTimer := .running 10000, recoveryTimer := .stopped }
      let working (u : State) : State := u.withPs (PowerStage.judge u.active { u.ps with linkWorking := true })
      (s.pl.link ≠ .lost → exec (.identReply r) s =
          .next (State.settleLink (working (State.vanIdentified v.tag v.capacity (s.withPl known)))))
        ∧ (s.pl.link = .lost → s.pl.identity.map VanIdentity.tag = some v.tag → exec (.identReply r) s =
          .next (State.settleLink (working (State.sameVan (s.withPl known)))))
        ∧ (s.pl.link = .lost → s.pl.identity.map VanIdentity.tag ≠ some v.tag → exec (.identReply r) s =
          .next (State.settleLink (working (State.differentVan v.tag v.capacity (s.withPl { known with
            wantStatus := false, wantHeater := none, status := none, heaterWanted := none })))))

/-- STATUS_REPLY with a valid reply: the status put in range and kept, the effective accept power handed on and the setpoint limited to it,
the walker's van status replaced, the programme built where a plan waits, a WARM-PACK step ended at the warm threshold plus 2, and the
heaters asked for again where the van does not run them as wanted. That a STATUS placed as a STATUS completes is placed anew (log 21), and
that the requests begin at the command's end (log 10), are the model's reading, and so is what a STATUS does to a WARM-PACK step that a
rebuild of the same moment has formed anew (log 32). -/
def Obligations.ValidStatusReachesItsBlocks : Prop :=
  ∀ (s : State) (r : LinkReply) (busy bad : Nat), s.pl.exchange = some ⟨.status, busy, bad⟩ → s.pl.busyWait.isRunning = false →
    replyFits .status r = true → judgeReply .status r = .valid →
      let field (off n : Nat) : Nat := leNat ((r.data.drop off).take n)
      let flag (n : Nat) : Bool := (r.data.getD 5 0#8).getLsbD n
      let temperature : Int := max (-40) (min 85 (r.data.getD 2 0#8).toInt)
      let st : LinkStatus := ⟨min (field 0 2) 1000, temperature, min (field 3 2) 9999, flag 0, flag 1, flag 2⟩
      let accept := if flag 0 then min st.acceptNow ((s.pl.identity.map VanIdentity.maxAccept).getD 0) else 0
      let taken := (s.withPl { s.pl with
        exchange := none, busyWait := .stopped, output := .released, failures := 0, link := .ready, status := some st,
        accept := accept }).withPs { s.ps with
          acceptLimit := accept
          setpoint := if accept < s.ps.setpoint then (if accept < s.cfg.pMin then 0 else accept) else s.ps.setpoint }
      let heard := taken.withPw { s.pw with status := some ⟨st.soc, st.temperature⟩ }
      let checked (u : State) : State := match u.pl.heaterWanted with
        | some h => if (flag 1 = h.pack ∧ flag 2 = h.cabin) ∨ u.pl.wantHeater ≠ none then u else u.placeHeater h
        | none => u
      (s.pw.van = none → exec (.statusReply r) s = .next (State.settleLink (checked taken)))
        ∧ (s.pw.van.isSome = true → s.pw.state = .awaiting → exec (.statusReply r) s = .next (State.settleLink (checked
            (if s.pw.held.isSome = true ∧ s.dc.source ≠ .unset then heard.buildOrAwait else heard))))
        ∧ (s.pw.van.isSome = true → s.pw.state ≠ .awaiting → exec (.statusReply r) s = .next (State.settleLink (checked
            (match s.pw.current with
              | some (_, step) => if step.kind = .warmPack ∧ s.cfg.warmThreshold + 2 ≤ temperature then heard.endStep false else heard
              | none => heard))))

/-- HEATER_REPLY with a completed exchange: valid, the settings become the heater wanted; refused, the heater wanted stays, and where the
current step is the one whose heater was asked on, its STEP-END with the refusal mark is queued and the step ends. That the requests begin
at the command's end is the model's reading (log 10). -/
def Obligations.CompletedHeaterExchange : Prop :=
  ∀ (s : State) (r : LinkReply) (h : Heaters) (busy bad : Nat), s.pl.exchange = some ⟨.heater h, busy, bad⟩ →
    s.pl.busyWait.isRunning = false → replyFits (.heater h) r = true →
      let done := { s.pl with exchange := none, busyWait := Timer.stopped, output := LinkOutput.released, failures := 0, link := .ready }
      (judgeReply (.heater h) r = .valid →
          exec (.heaterReply r) s = .next (State.settleLink (s.withPl { done with heaterWanted := some h })))
        ∧ (judgeReply (.heater h) r = .refused →
          (∀ p st, s.pw.state.walking = true → s.pw.atStep = some (p, st) →
              (st.kind = .warmPack ∧ h.pack = true) ∨ (st.kind = .cabin ∧ h.cabin = true) →
            exec (.heaterReply r) s = .next (State.settleLink (State.endStep true
              (State.queueReport .stepEnd s.pw.tag (st.kind.code + 256) (s.withPl done)))))
          ∧ ((∀ p st, s.pw.current = some (p, st) →
              ¬ ((st.kind = .warmPack ∧ h.pack = true) ∨ (st.kind = .cabin ∧ h.cabin = true))) →
            exec (.heaterReply r) s = .next (State.settleLink (s.withPl done))))

/-- The request set: a HEATER placed stands in it with its settings in place of any older one, a STATUS placed joins it or merges into the
exchange in flight, and in UNPLUGGED both are discarded. A READY link with no service pause begins an exchange with the HEATER request first
and the STATUS request else, at the end of each command (log 10). BUSY_REPOLL_WAIT_EXPIRY writes the same command again, SERVICE_PAUSE_END
and POLL_TIMER_EXPIRY let a request begin, and the poll timer places a STATUS and runs on at 10 s. -/
def Obligations.RequestsBeginExchanges : Prop :=
  (∀ (s : State) (h : Heaters),
      (s.pl.link ≠ .unplugged → s.placeHeater h = s.withPl { s.pl with wantHeater := some h })
        ∧ (s.pl.link ≠ .unplugged → s.pl.exchange.map Exchange.command ≠ some .status →
          s.placeStatus = s.withPl { s.pl with wantStatus := true })
        ∧ (s.pl.exchange.map Exchange.command = some .status → s.placeStatus = s)
        ∧ (s.pl.link = .unplugged → s.placeHeater h = s ∧ s.placeStatus = s))
  ∧ ∀ s : State,
    let settings (h : Heaters) : Byte := (if h.pack then 1#8 else 0#8) ||| if h.cabin then 2#8 else 0#8
    (s.pl.link = .ready → s.pl.pause.isRunning = false →
      (∀ h, s.pl.wantHeater = some h → s.settleLink = s.withPl { s.pl with
          link := .exchange, wantHeater := none, exchange := some ⟨.heater h, 0, 0⟩, output := .command (writeSlots [0x13#8, settings h]) })
        ∧ (s.pl.wantHeater = none → s.pl.wantStatus = true → s.settleLink = s.withPl { s.pl with
          link := .exchange, wantStatus := false, exchange := some ⟨.status, 0, 0⟩, output := .command (writeSlots [0x12#8]) })
        ∧ (s.pl.wantHeater = none → s.pl.wantStatus = false → s.settleLink = s))
      ∧ (s.pl.link ≠ .ready ∨ s.pl.pause.isRunning = true → s.settleLink = s)
      ∧ (∀ e, s.pl.exchange = some e → s.pl.busyWait.isRunning = true → exec .busyRepollWaitExpiry s =
          .next (s.withPl { s.pl with busyWait := .stopped, output := .command (writeSlots e.command.bytes) }))
      ∧ (s.pl.pause.isRunning = true → exec .servicePauseEnd s = .next (State.settleLink (s.withPl { s.pl with pause := .stopped })))
      ∧ (s.pl.pollTimer.isRunning = true → s.pl.link ≠ .unplugged →
          exec .pollTimerExpiry s = .next (State.settleLink (s.withPl { s.pl with
            pollTimer := .running 10000
            wantStatus := s.pl.wantStatus || decide (s.pl.exchange.map Exchange.command ≠ some .status) })))

/-! ## The contactor and the meter -/

/-- The contactor is wanted closed exactly under the conditions of R135. -/
def Obligations.ContactorWantedClosed : Prop :=
  ∀ s : State, s.ps.wanted s.active = true ↔
    s.sl.config = .active ∧ s.ps.plugDetected = true ∧ s.ps.linkWorking = true
      ∧ (s.ps.viewState = .running ∨ s.ps.viewState = .waiting
          ∨ (s.ps.viewState = .held ∧ s.ps.viewLinkLost = false ∧ s.ps.viewMeterLost = false))
      ∧ s.ps.closeLatch = false ∧ s.ps.weldLatch = false

/-- What a judgement of the contactor does: from OPEN, wanted and with the retry wait stopped, into CLOSING, and on to CLOSED where the
sense reads closed; from CLOSING, unwanted, into the sense phase of OPENING; from CLOSED, unwanted, into its draw phase, which passes at
once on a good meter and a draw below 5; and nothing anywhere else. A sense phase that begins on an open sense ends in OPEN at once. -/
def Obligations.ContactorFollowsTheWant : Prop :=
  ∀ (active : Bool) (ps : PowerStage),
    let sensing (a : PowerStage) : PowerStage :=
      { a with contactor := .opening .sense, drive := false, drawWait := .stopped, senseTimer := .running 200 }
    let opened (a : PowerStage) : PowerStage :=
      { a with contactor := .isOpen, drive := false, drawWait := .stopped, senseTimer := .stopped }
    let released (a : PowerStage) : PowerStage := if a.senseClosed = true then sensing a else opened a
    (ps.wanted active = true →
      (ps.contactor = .isOpen → ps.retryWait.isRunning = true → ps.judge active = ps)
        ∧ (ps.contactor = .isOpen → ps.retryWait.isRunning = false → ps.senseClosed = false →
          ps.judge active = { ps with contactor := .closing, drive := true, senseTimer := .running 200 })
        ∧ (ps.contactor = .isOpen → ps.retryWait.isRunning = false → ps.senseClosed = true →
          ps.judge active = { ps with contactor := .isClosed, drive := true, senseTimer := .stopped })
        ∧ (ps.contactor ≠ .isOpen → ps.judge active = ps))
      ∧ (ps.wanted active = false →
        (ps.contactor = .closing → ps.judge active = released ps)
          ∧ (ps.contactor = .isClosed → ps.meterLost = false → ps.draw < 5 → ps.judge active = released { ps with setpoint := 0 })
          ∧ (ps.contactor = .isClosed → ps.meterLost = true ∨ 5 ≤ ps.draw →
            ps.judge active = { ps with setpoint := 0, contactor := .opening .draw, drawWait := .running 2000 })
          ∧ (ps.contactor ≠ .closing → ps.contactor ≠ .isClosed → ps.judge active = ps))

/-- SENSE_READS_CLOSED ends CLOSING in CLOSED. SENSE_READS_OPEN ends the sense phase of OPENING in OPEN, from which a contactor still wanted
closes again, and in CLOSED it is a failed close. Neither changes anything else but the sense as read. The contactor's timers.
CLOSE_SENSE_TIMER_EXPIRY in CLOSING is a failed close: the first with a van gives OPEN and the retry wait, the second the close latch.
OPEN_SENSE_TIMER_EXPIRY in the sense phase sets the weld latch. RETRY_WAIT_EXPIRY judges the contactor anew, and DRAW_WAIT_EXPIRY ends the
draw phase. A latch set takes the setpoint to 0 and the drive off, gives the walker the contactor fault cause and, in ACTIVE, is reported.
-/
def Obligations.ContactorSenseTimersAndLatches : Prop :=
  (∀ s : State,
      (s.ps.contactor = .closing → exec .senseReadsClosed s = .next (s.withPs { s.ps with
          senseClosed := true, senseTimer := .stopped, contactor := .isClosed }))
        ∧ (s.ps.contactor ≠ .closing → exec .senseReadsClosed s = .next (s.withPs { s.ps with senseClosed := true }))
        ∧ (s.ps.contactor = .isClosed → exec .senseReadsOpen s = .next (State.failedClose (s.withPs { s.ps with senseClosed := false })))
        ∧ (s.ps.contactor = .opening .sense → exec .senseReadsOpen s = .next (s.withPs (PowerStage.judge s.active { s.ps with
          senseClosed := false, contactor := .isOpen, senseTimer := .stopped })))
        ∧ (s.ps.contactor ≠ .isClosed → s.ps.contactor ≠ .opening .sense →
          exec .senseReadsOpen s = .next (s.withPs { s.ps with senseClosed := false })))
  ∧ ∀ s : State,
      let off := { s.ps with setpoint := 0, drive := false, senseTimer := Timer.stopped }
      let fault (detail : Nat) (u : State) : State := State.queueReport .fault s.pw.tag detail
        (State.setHolds { s.pw.holds with contactorFault := true } u)
      (s.ps.closeMisses = 0 → s.failedClose = s.withPs { off with closeMisses := 1, retryWait := .running 5000, contactor := .isOpen })
        ∧ (s.ps.closeMisses ≠ 0 →
          s.failedClose = fault 4 (s.withPs { off with closeLatch := true, contactor := .closeFault }))
        ∧ (s.ps.senseTimer.isRunning = true → s.ps.contactor = .closing → exec .closeSenseTimerExpiry s = .next s.failedClose)
        ∧ (s.ps.senseTimer.isRunning = true → s.ps.contactor = .opening .sense → exec .openSenseTimerExpiry s =
          .next (fault 5 (s.withPs { off with weldLatch := true, contactor := .weldFault })))
        ∧ (s.ps.retryWait.isRunning = true →
          exec .retryWaitExpiry s = .next (s.withPs (PowerStage.judge s.active { s.ps with retryWait := .stopped })))
        ∧ (s.ps.drawWait.isRunning = true → s.ps.contactor = .opening .draw →
          (s.ps.senseClosed = true → exec .drawWaitExpiry s = .next (s.withPs { s.ps with
              contactor := .opening .sense, drive := false, drawWait := .stopped, senseTimer := .running 200 }))
            ∧ (s.ps.senseClosed = false → exec .drawWaitExpiry s = .next (s.withPs (PowerStage.judge s.active { s.ps with
              contactor := .isOpen, drive := false, drawWait := .stopped, senseTimer := .stopped }))))

/-- DRAW_UPDATE in ACTIVE: the draw, at most 9999, and the age 0; it ends meter lost, of which the walker is told, and a value below 5 ends
the draw phase of OPENING. METER_LOST: the setpoint 0, the walker told, and a FAULT report. That a request DRAW_UPDATE places begins at its
end is the model's reading (log 10). -/
def Obligations.MeterUpdatesAndMeterLost : Prop :=
  ∀ s : State, s.sl.config = .active →
    (∀ power : Nat,
      let read := s.withPs { s.ps with
        draw := if 9999 < power then 9999 else power, updateTaken := true, updateAge := some 0, meterLost := false }
      let good := if s.ps.meterLost = true then read.setHolds { s.pw.holds with meterLost := false } else read
      (good.ps.contactor ≠ .opening .draw ∨ 5 ≤ power → exec (.drawUpdate power) s = .next good.settleLink)
        ∧ (good.ps.contactor = .opening .draw → power < 5 →
          (good.ps.senseClosed = true → exec (.drawUpdate power) s = .next (State.settleLink (good.withPs { good.ps with
              contactor := .opening .sense, drive := false, drawWait := .stopped, senseTimer := .running 200 })))
            ∧ (good.ps.senseClosed = false → exec (.drawUpdate power) s = .next (State.settleLink (good.withPs
              (PowerStage.judge true { good.ps with
                contactor := .isOpen, drive := false, drawWait := .stopped, senseTimer := .stopped }))))))
      ∧ (s.ps.meterLost = false → exec .meterLost s = .next (State.queueReport .fault s.pw.tag 3
        (State.setHolds { s.pw.holds with meterLost := true }
          (s.withPs { s.ps with meterLost := true, setpoint := 0, updateAge := some 3 }))))

/-! ## What every step keeps -/

/-- The depot line: the queue in its order and bounds with one frame on the line exactly in SENDING, the line driven then and left recessive
otherwise, the counts in their ranges, the receive buffer as the checks leave it. -/
def Obligations.LineInvariantKept : Prop :=
  ∀ s t : State, s.lineOk → step s = .next t → t.lineOk

/-- The peer view: at most 48 entries in order, no id twice, never the own id, each in its ranges; empty outside ACTIVE. -/
def Obligations.ViewInvariantKept : Prop :=
  ∀ s t : State, s.viewOk → step s = .next t → t.viewOk

/-- ACTIVE stands for an image that passed its checks, and outside ACTIVE every block but the Start-up Loader and the Line Interface is as
the power-on reset left it, the weld check and the sense reading apart. Once the image has been read, no command but the two supply events
changes the configuration state, the image's values or the station id. That every configuration value is 0, clear or empty outside ACTIVE,
in CONFIG-FAULT too, is the model's choice (log 12), and so is the update age, absent there (log 22). -/
def Obligations.StartInvariantKept : Prop :=
  ∀ (c : Instr) (s t : State), s.startOk → exec c s = .next t →
    t.startOk
      ∧ (s.sl.config ≠ .loading → (∀ b, c ≠ .powerUp b ∧ c ≠ .brownOut b) →
        t.sl.config = s.sl.config ∧ t.sl.stationId = s.sl.stationId ∧ t.cfg = s.cfg)

/-- The setpoint is 0 or at least P_min and at most the least of P_bay, the last posted share and the van accept limit; it is 0 outside
CLOSED and while meter lost is set; and no command but a posting raises it, with the contactor CLOSED, the meter good and no shed hold. -/
def Obligations.SetpointInvariantKept : Prop :=
  (∀ s t : State, s.viewOk → s.setpointOk → step s = .next t → t.setpointOk)
    ∧ ∀ (c : Instr) (s t : State), exec c s = .next t → s.ps.setpoint < t.ps.setpoint →
      c = .claimPeriodExpiry ∧ s.ps.contactor = .isClosed ∧ s.ps.meterLost = false ∧ s.ps.shedHold = 0

/-- The contactor, its drive, timers and latches agree, and it is in CLOSING or CLOSED only while wanted closed. -/
def Obligations.ContactorInvariantKept : Prop :=
  ∀ s t : State, s.ps.contactorOk s.active → step s = .next t → t.ps.contactorOk t.active

/-- The walker: the plan slot, the programme with its position, and what each programme state holds. -/
def Obligations.WalkerInvariantKept : Prop :=
  ∀ s t : State, s.pw.ok → step s = .next t → t.pw.ok

/-- The plug link: its state with the exchange, the requests, the counts and the timers that go with it. -/
def Obligations.LinkInvariantKept : Prop :=
  ∀ s t : State, s.linkOk → step s = .next t → t.linkOk

/-- What the blocks know of each other stays right: Power Stage Control's views, the walker's causes and the accept limit. -/
def Obligations.ViewsOfEachOtherKept : Prop :=
  ∀ s t : State, s.linkOk → s.viewsAgree → step s = .next t → t.viewsAgree

/-- The clock stays within the day and the anchor age within 600, an UNSET clock stays at 0, and no command but the two supply events takes
it back to UNSET; the Share Computer's counts stay at most 4 and 15, and its own claim keeps its floor within its ceiling and its urgency
within 1000. -/
def Obligations.ClockAndShareCountsKept : Prop :=
  ∀ (c : Instr) (s t : State), exec c s = .next t →
    (s.dc.timeOk → t.dc.timeOk)
      ∧ (s.dc.source ≠ .unset → (∀ b, c ≠ .powerUp b ∧ c ≠ .brownOut b) → t.dc.source ≠ .unset)
      ∧ (s.sc.countsOk → t.sc.countsOk)

/-- Every invariant holds right after reset, and so does each after a power-up that finds a weld. The configuration values (log 12), the
update age (log 22) and, right after reset, the sense level (log 11) that they hold of are the model's choice. -/
def Obligations.InvariantsHoldAfterReset : Prop :=
  ∀ b : Bool, ∀ s : State, s = State.reset ∨ exec (.powerUp b) State.reset = .next s →
    s.lineOk ∧ s.dc.timeOk ∧ s.viewOk ∧ s.startOk ∧ s.setpointOk ∧ s.ps.contactorOk s.active ∧ s.pw.ok ∧ s.linkOk ∧ s.viewsAgree
      ∧ s.sc.countsOk
end

