-- ==== Sys2Proof/Laws/Build.lean ====
section
/-! SUPPORT. The steps a build forms (R94). -/

namespace Sys2Proof.Machine

theorem markLast_length : ∀ l : List ProgStep, (markLast l).length = l.length
  | [] => rfl
  | [_] => rfl
  | _ :: y :: rest => by rw [markLast, List.length_cons, markLast_length (y :: rest)]; rfl

/-- Setting the last end flag changes no other field. -/
theorem markLast_map {α : Type} (g : ProgStep → α) (hg : ∀ st : ProgStep, g { st with last := true } = g st) :
    ∀ l : List ProgStep, (markLast l).map g = l.map g
  | [] => rfl
  | [x] => by simp [markLast, hg]
  | x :: y :: rest => by rw [markLast, List.map_cons, markLast_map g hg (y :: rest)]; rfl

/-- The formed steps are at most four, at most one of each kind, in the order of R94. -/
theorem formSteps_kinds (c : Settings) (plan : Plan) (van : AttachedVan) (st : VanStatus) :
    (formSteps c plan van st).length ≤ 4
      ∧ (formSteps c plan van st).Pairwise (fun a b => a.kind.code < b.kind.code) := by
  unfold formSteps
  dsimp only
  refine ⟨(List.length_filter_le _ _).trans (by simp), List.Pairwise.sublist List.filter_sublist ?_⟩
  simp [StepKind.code]

theorem pairwise_code_map (l : List ProgStep) :
    l.Pairwise (fun a b => a.kind.code < b.kind.code) ↔ (l.map (fun st => st.kind.code)).Pairwise (· < ·) := by
  rw [List.pairwise_map]

/-- A build's steps: at most four, at most one of each kind, in order, none of amount 0 (R94). -/
theorem buildSteps_spec (c : Settings) (plan : Plan) (van : AttachedVan) (st : VanStatus) :
    (buildSteps c plan van st).length ≤ 4
      ∧ (buildSteps c plan van st).Pairwise (fun a b => a.kind.code < b.kind.code)
      ∧ (∀ x ∈ buildSteps c plan van st, 1 ≤ x.amount) := by
  obtain ⟨h1, h2⟩ := formSteps_kinds c plan van st
  unfold buildSteps
  refine ⟨by rwa [markLast_length], ?_, fun x hx => ?_⟩
  · rw [pairwise_code_map, markLast_map _ (fun _ => rfl), ← pairwise_code_map]; exact h2
  · have : x.amount ∈ (markLast (formSteps c plan van st)).map ProgStep.amount := List.mem_map_of_mem hx
    rw [markLast_map _ (fun _ => rfl)] at this
    obtain ⟨y, hy, hyx⟩ := List.mem_map.mp this
    unfold formSteps at hy
    simp only [List.mem_filter, decide_eq_true_eq] at hy
    omega

/-- Rounding up to whole units (00_scope.md, "Arithmetic"): the least whole number of parts that reaches `a`. -/
theorem divUp_le_iff {a b k : Nat} (hb : 0 < b) : divUp a b ≤ k ↔ a ≤ k * b := by
  unfold divUp
  rw [Nat.div_le_iff_le_mul hb]
  omega

theorem divUp_mono {a a' b : Nat} (h : a ≤ a') : divUp a b ≤ divUp a' b := Nat.div_le_div_right (by omega)

/-- The BULK amount never exceeds the need (R94). -/
theorem bulkOf_le_needOf (c : Settings) (soc target capacity : Nat) (hT : target ≤ 1000) :
    bulkOf c soc target capacity ≤ needOf soc target capacity := by
  unfold bulkOf needOf energyTo
  by_cases h : soc < min target c.taperSoc
  · rw [if_pos h, if_pos (by omega)]
    refine le_min (divUp_mono (Nat.mul_le_mul_right _ (by omega))) ((divUp_le_iff (by omega)).mpr ?_)
    rw [mul_comm capacity]
    exact Nat.mul_le_mul_right _ (by omega)
  · rw [if_neg h]; exact Nat.zero_le _

end Sys2Proof.Machine
end

