-- ==== Sys2Proof/Laws/Bytes.lean ====
section
/-! SUPPORT. Bytes as bits: what the slots of the plug link (R115) and the serial bits of the commissioning memory (R147) carry is read as it
was written. -/

namespace Sys2Proof.Machine

/-! ## The bits of the link line (R115) -/

@[simp] theorem dataBits_length (b : Byte) : (dataBits b).length = 8 := by simp [dataBits]

@[simp] theorem writeSlots_nil : writeSlots [] = [] := rfl

@[simp] theorem writeSlots_cons (b : Byte) (bs : List Byte) : writeSlots (b :: bs) = dataBits b ++ writeSlots bs := rfl

@[simp] theorem writeSlots_length (bytes : List Byte) : (writeSlots bytes).length = 8 * bytes.length := by
  induction bytes with
  | nil => rfl
  | cons b bs ih => simp only [writeSlots_cons, List.length_append, dataBits_length, ih, List.length_cons]; omega

/-- A byte is read as it was written, whatever slots follow. -/
@[simp] theorem slotByte_dataBits (b : Byte) (rest : List Bool) : slotByte (dataBits b ++ rest) = b := by
  have whole : ∀ b : Byte, BitVec.ofNat 8 (slotNat (dataBits b)) = b := by decide +kernel
  unfold slotByte
  rw [List.take_left' (dataBits_length b), whole]

/-- Bytes are read as they were written, whatever slots follow. -/
@[simp] theorem slotBytes_writeSlots (bytes : List Byte) (rest : List Bool) :
    slotBytes bytes.length (writeSlots bytes ++ rest) = bytes := by
  induction bytes with
  | nil => rfl
  | cons b bs ih =>
    simp only [List.length_cons, slotBytes, writeSlots_cons, List.append_assoc, slotByte_dataBits,
      List.drop_left' (dataBits_length b), ih]

/-! ## The serial bits of the commissioning memory (R147) -/

@[simp] theorem serialBits_nil : serialBits [] = [] := rfl

@[simp] theorem serialBits_cons (b : Byte) (bs : List Byte) : serialBits (b :: bs) = (dataBits b).reverse ++ serialBits bs := rfl

/-- The serial bits with each byte's bits spelled out. -/
theorem serialBits_spelled (bytes : List Byte) :
    serialBits bytes = bytes.flatMap fun b => [7, 6, 5, 4, 3, 2, 1, 0].map b.getLsbD := rfl

@[simp] theorem serialBits_length (bytes : List Byte) : (serialBits bytes).length = 8 * bytes.length := by
  induction bytes with
  | nil => rfl
  | cons b bs ih => simp only [serialBits_cons, List.length_append, List.length_reverse, dataBits_length, ih, List.length_cons]; omega

@[simp] theorem serialBytes_length (n : Nat) (bits : List Bool) : (serialBytes n bits).length = n := by
  induction n generalizing bits with
  | zero => rfl
  | succ n ih => simp [serialBytes, ih]

/-- A byte is clocked in as it was sent, whatever bits follow. -/
@[simp] theorem serialByte_reverse (b : Byte) (rest : List Bool) : serialByte ((dataBits b).reverse ++ rest) = b := by
  have whole := slotByte_dataBits b []
  rw [List.append_nil] at whole
  rw [serialByte, List.take_left' (by simp), List.reverse_reverse, whole]

/-- Bytes are clocked in as they were sent, whatever bits follow. -/
@[simp] theorem serialBytes_serialBits (bytes : List Byte) (rest : List Bool) :
    serialBytes bytes.length (serialBits bytes ++ rest) = bytes := by
  induction bytes with
  | nil => rfl
  | cons b bs ih =>
    simp only [List.length_cons, serialBytes, serialBits_cons, List.append_assoc, serialByte_reverse,
      List.drop_left' (show (dataBits b).reverse.length = 8 by simp), ih]

/-- Eight bits are the bits of their byte. -/
theorem dataBits_slotByte {bits : List Bool} (h : bits.length = 8) : dataBits (slotByte bits) = bits := by
  match bits, h with
  | [a, b, c, d, e, f, g, i], _ =>
    have whole : ∀ a b c d e f g i : Bool, dataBits (slotByte [a, b, c, d, e, f, g, i]) = [a, b, c, d, e, f, g, i] := by decide +kernel
    exact whole a b c d e f g i

/-- Every run of whole bytes of bits is the serial bits of the bytes it is read as. -/
theorem serialBits_serialBytes (n : Nat) (bits : List Bool) (h : bits.length = 8 * n) : serialBits (serialBytes n bits) = bits := by
  induction n generalizing bits with
  | zero => exact (List.length_eq_zero_iff.mp (by omega)).symm
  | succ n ih =>
    have first : (bits.take 8).reverse.length = 8 := by simp; omega
    have byte : dataBits (serialByte bits) = (bits.take 8).reverse := dataBits_slotByte first
    rw [serialBytes, serialBits_cons, byte, List.reverse_reverse, ih (bits.drop 8) (by simp; omega), List.take_append_drop]

end Sys2Proof.Machine
end

