-- ==== Sys2Proof/Laws/State.lean ====
section
/-! SUPPORT. One lemma per block per update: a block's update sets that block and leaves the others and the queue as they were. -/

namespace Sys2Proof.Machine

variable (s : State)

/-! ## State.withSl -/

@[simp] theorem State.withSl_sl (x : StartUp) : (s.withSl x).sl = x := rfl
@[simp] theorem State.withSl_cfg (x : StartUp) : (s.withSl x).cfg = s.cfg := rfl
@[simp] theorem State.withSl_li (x : StartUp) : (s.withSl x).li = s.li := rfl
@[simp] theorem State.withSl_dc (x : StartUp) : (s.withSl x).dc = s.dc := rfl
@[simp] theorem State.withSl_pv (x : StartUp) : (s.withSl x).pv = s.pv := rfl
@[simp] theorem State.withSl_sc (x : StartUp) : (s.withSl x).sc = s.sc := rfl
@[simp] theorem State.withSl_pw (x : StartUp) : (s.withSl x).pw = s.pw := rfl
@[simp] theorem State.withSl_pl (x : StartUp) : (s.withSl x).pl = s.pl := rfl
@[simp] theorem State.withSl_ps (x : StartUp) : (s.withSl x).ps = s.ps := rfl
@[simp] theorem State.withSl_pending (x : StartUp) : (s.withSl x).pending = s.pending := rfl
@[simp] theorem State.withSl_withSl (x y : StartUp) : (s.withSl x).withSl y = s.withSl y := rfl
@[simp] theorem State.withSl_self : s.withSl s.sl = s := rfl

/-! ## State.withCfg -/

@[simp] theorem State.withCfg_sl (x : Settings) : (s.withCfg x).sl = s.sl := rfl
@[simp] theorem State.withCfg_cfg (x : Settings) : (s.withCfg x).cfg = x := rfl
@[simp] theorem State.withCfg_li (x : Settings) : (s.withCfg x).li = s.li := rfl
@[simp] theorem State.withCfg_dc (x : Settings) : (s.withCfg x).dc = s.dc := rfl
@[simp] theorem State.withCfg_pv (x : Settings) : (s.withCfg x).pv = s.pv := rfl
@[simp] theorem State.withCfg_sc (x : Settings) : (s.withCfg x).sc = s.sc := rfl
@[simp] theorem State.withCfg_pw (x : Settings) : (s.withCfg x).pw = s.pw := rfl
@[simp] theorem State.withCfg_pl (x : Settings) : (s.withCfg x).pl = s.pl := rfl
@[simp] theorem State.withCfg_ps (x : Settings) : (s.withCfg x).ps = s.ps := rfl
@[simp] theorem State.withCfg_pending (x : Settings) : (s.withCfg x).pending = s.pending := rfl
@[simp] theorem State.withCfg_withCfg (x y : Settings) : (s.withCfg x).withCfg y = s.withCfg y := rfl
@[simp] theorem State.withCfg_self : s.withCfg s.cfg = s := rfl

/-! ## State.withLi -/

@[simp] theorem State.withLi_sl (x : LineInterface) : (s.withLi x).sl = s.sl := rfl
@[simp] theorem State.withLi_cfg (x : LineInterface) : (s.withLi x).cfg = s.cfg := rfl
@[simp] theorem State.withLi_li (x : LineInterface) : (s.withLi x).li = x := rfl
@[simp] theorem State.withLi_dc (x : LineInterface) : (s.withLi x).dc = s.dc := rfl
@[simp] theorem State.withLi_pv (x : LineInterface) : (s.withLi x).pv = s.pv := rfl
@[simp] theorem State.withLi_sc (x : LineInterface) : (s.withLi x).sc = s.sc := rfl
@[simp] theorem State.withLi_pw (x : LineInterface) : (s.withLi x).pw = s.pw := rfl
@[simp] theorem State.withLi_pl (x : LineInterface) : (s.withLi x).pl = s.pl := rfl
@[simp] theorem State.withLi_ps (x : LineInterface) : (s.withLi x).ps = s.ps := rfl
@[simp] theorem State.withLi_pending (x : LineInterface) : (s.withLi x).pending = s.pending := rfl
@[simp] theorem State.withLi_withLi (x y : LineInterface) : (s.withLi x).withLi y = s.withLi y := rfl
@[simp] theorem State.withLi_self : s.withLi s.li = s := rfl

/-! ## State.withDc -/

@[simp] theorem State.withDc_sl (x : DepotClock) : (s.withDc x).sl = s.sl := rfl
@[simp] theorem State.withDc_cfg (x : DepotClock) : (s.withDc x).cfg = s.cfg := rfl
@[simp] theorem State.withDc_li (x : DepotClock) : (s.withDc x).li = s.li := rfl
@[simp] theorem State.withDc_dc (x : DepotClock) : (s.withDc x).dc = x := rfl
@[simp] theorem State.withDc_pv (x : DepotClock) : (s.withDc x).pv = s.pv := rfl
@[simp] theorem State.withDc_sc (x : DepotClock) : (s.withDc x).sc = s.sc := rfl
@[simp] theorem State.withDc_pw (x : DepotClock) : (s.withDc x).pw = s.pw := rfl
@[simp] theorem State.withDc_pl (x : DepotClock) : (s.withDc x).pl = s.pl := rfl
@[simp] theorem State.withDc_ps (x : DepotClock) : (s.withDc x).ps = s.ps := rfl
@[simp] theorem State.withDc_pending (x : DepotClock) : (s.withDc x).pending = s.pending := rfl
@[simp] theorem State.withDc_withDc (x y : DepotClock) : (s.withDc x).withDc y = s.withDc y := rfl
@[simp] theorem State.withDc_self : s.withDc s.dc = s := rfl

/-! ## State.withPv -/

@[simp] theorem State.withPv_sl (x : PeerView) : (s.withPv x).sl = s.sl := rfl
@[simp] theorem State.withPv_cfg (x : PeerView) : (s.withPv x).cfg = s.cfg := rfl
@[simp] theorem State.withPv_li (x : PeerView) : (s.withPv x).li = s.li := rfl
@[simp] theorem State.withPv_dc (x : PeerView) : (s.withPv x).dc = s.dc := rfl
@[simp] theorem State.withPv_pv (x : PeerView) : (s.withPv x).pv = x := rfl
@[simp] theorem State.withPv_sc (x : PeerView) : (s.withPv x).sc = s.sc := rfl
@[simp] theorem State.withPv_pw (x : PeerView) : (s.withPv x).pw = s.pw := rfl
@[simp] theorem State.withPv_pl (x : PeerView) : (s.withPv x).pl = s.pl := rfl
@[simp] theorem State.withPv_ps (x : PeerView) : (s.withPv x).ps = s.ps := rfl
@[simp] theorem State.withPv_pending (x : PeerView) : (s.withPv x).pending = s.pending := rfl
@[simp] theorem State.withPv_withPv (x y : PeerView) : (s.withPv x).withPv y = s.withPv y := rfl
@[simp] theorem State.withPv_self : s.withPv s.pv = s := rfl

/-! ## State.withSc -/

@[simp] theorem State.withSc_sl (x : ShareComputer) : (s.withSc x).sl = s.sl := rfl
@[simp] theorem State.withSc_cfg (x : ShareComputer) : (s.withSc x).cfg = s.cfg := rfl
@[simp] theorem State.withSc_li (x : ShareComputer) : (s.withSc x).li = s.li := rfl
@[simp] theorem State.withSc_dc (x : ShareComputer) : (s.withSc x).dc = s.dc := rfl
@[simp] theorem State.withSc_pv (x : ShareComputer) : (s.withSc x).pv = s.pv := rfl
@[simp] theorem State.withSc_sc (x : ShareComputer) : (s.withSc x).sc = x := rfl
@[simp] theorem State.withSc_pw (x : ShareComputer) : (s.withSc x).pw = s.pw := rfl
@[simp] theorem State.withSc_pl (x : ShareComputer) : (s.withSc x).pl = s.pl := rfl
@[simp] theorem State.withSc_ps (x : ShareComputer) : (s.withSc x).ps = s.ps := rfl
@[simp] theorem State.withSc_pending (x : ShareComputer) : (s.withSc x).pending = s.pending := rfl
@[simp] theorem State.withSc_withSc (x y : ShareComputer) : (s.withSc x).withSc y = s.withSc y := rfl
@[simp] theorem State.withSc_self : s.withSc s.sc = s := rfl

/-! ## State.withPw -/

@[simp] theorem State.withPw_sl (x : Walker) : (s.withPw x).sl = s.sl := rfl
@[simp] theorem State.withPw_cfg (x : Walker) : (s.withPw x).cfg = s.cfg := rfl
@[simp] theorem State.withPw_li (x : Walker) : (s.withPw x).li = s.li := rfl
@[simp] theorem State.withPw_dc (x : Walker) : (s.withPw x).dc = s.dc := rfl
@[simp] theorem State.withPw_pv (x : Walker) : (s.withPw x).pv = s.pv := rfl
@[simp] theorem State.withPw_sc (x : Walker) : (s.withPw x).sc = s.sc := rfl
@[simp] theorem State.withPw_pw (x : Walker) : (s.withPw x).pw = x := rfl
@[simp] theorem State.withPw_pl (x : Walker) : (s.withPw x).pl = s.pl := rfl
@[simp] theorem State.withPw_ps (x : Walker) : (s.withPw x).ps = s.ps := rfl
@[simp] theorem State.withPw_pending (x : Walker) : (s.withPw x).pending = s.pending := rfl
@[simp] theorem State.withPw_withPw (x y : Walker) : (s.withPw x).withPw y = s.withPw y := rfl
@[simp] theorem State.withPw_self : s.withPw s.pw = s := rfl

/-! ## State.withPl -/

@[simp] theorem State.withPl_sl (x : PlugLink) : (s.withPl x).sl = s.sl := rfl
@[simp] theorem State.withPl_cfg (x : PlugLink) : (s.withPl x).cfg = s.cfg := rfl
@[simp] theorem State.withPl_li (x : PlugLink) : (s.withPl x).li = s.li := rfl
@[simp] theorem State.withPl_dc (x : PlugLink) : (s.withPl x).dc = s.dc := rfl
@[simp] theorem State.withPl_pv (x : PlugLink) : (s.withPl x).pv = s.pv := rfl
@[simp] theorem State.withPl_sc (x : PlugLink) : (s.withPl x).sc = s.sc := rfl
@[simp] theorem State.withPl_pw (x : PlugLink) : (s.withPl x).pw = s.pw := rfl
@[simp] theorem State.withPl_pl (x : PlugLink) : (s.withPl x).pl = x := rfl
@[simp] theorem State.withPl_ps (x : PlugLink) : (s.withPl x).ps = s.ps := rfl
@[simp] theorem State.withPl_pending (x : PlugLink) : (s.withPl x).pending = s.pending := rfl
@[simp] theorem State.withPl_withPl (x y : PlugLink) : (s.withPl x).withPl y = s.withPl y := rfl
@[simp] theorem State.withPl_self : s.withPl s.pl = s := rfl

/-! ## State.withPs -/

@[simp] theorem State.withPs_sl (x : PowerStage) : (s.withPs x).sl = s.sl := rfl
@[simp] theorem State.withPs_cfg (x : PowerStage) : (s.withPs x).cfg = s.cfg := rfl
@[simp] theorem State.withPs_li (x : PowerStage) : (s.withPs x).li = s.li := rfl
@[simp] theorem State.withPs_dc (x : PowerStage) : (s.withPs x).dc = s.dc := rfl
@[simp] theorem State.withPs_pv (x : PowerStage) : (s.withPs x).pv = s.pv := rfl
@[simp] theorem State.withPs_sc (x : PowerStage) : (s.withPs x).sc = s.sc := rfl
@[simp] theorem State.withPs_pw (x : PowerStage) : (s.withPs x).pw = s.pw := rfl
@[simp] theorem State.withPs_pl (x : PowerStage) : (s.withPs x).pl = s.pl := rfl
@[simp] theorem State.withPs_ps (x : PowerStage) : (s.withPs x).ps = x := rfl
@[simp] theorem State.withPs_pending (x : PowerStage) : (s.withPs x).pending = s.pending := rfl
@[simp] theorem State.withPs_withPs (x y : PowerStage) : (s.withPs x).withPs y = s.withPs y := rfl
@[simp] theorem State.withPs_self : s.withPs s.ps = s := rfl

end Sys2Proof.Machine
end

