-- ==== Sys2Proof/Laws/FrameOps.lean ====
section
/-! SUPPORT. Frames of the shared operations: which blocks each leaves as they were. -/

namespace Sys2Proof.Machine

variable (s : State)

@[simp] theorem State.beginAttempt_sl : (s.beginAttempt).sl = s.sl := by simp [State.beginAttempt]
@[simp] theorem State.beginAttempt_cfg : (s.beginAttempt).cfg = s.cfg := by simp [State.beginAttempt]
@[simp] theorem State.beginAttempt_dc : (s.beginAttempt).dc = s.dc := by simp [State.beginAttempt]
@[simp] theorem State.beginAttempt_pv : (s.beginAttempt).pv = s.pv := by simp [State.beginAttempt]
@[simp] theorem State.beginAttempt_sc : (s.beginAttempt).sc = s.sc := by simp [State.beginAttempt]
@[simp] theorem State.beginAttempt_pw : (s.beginAttempt).pw = s.pw := by simp [State.beginAttempt]
@[simp] theorem State.beginAttempt_pl : (s.beginAttempt).pl = s.pl := by simp [State.beginAttempt]
@[simp] theorem State.beginAttempt_ps : (s.beginAttempt).ps = s.ps := by simp [State.beginAttempt]
@[simp] theorem State.beginAttempt_pending : (s.beginAttempt).pending = s.pending := by simp [State.beginAttempt]

@[simp] theorem State.trySend_sl : (s.trySend).sl = s.sl := by simp only [State.trySend]; (repeat' split) <;> simp
@[simp] theorem State.trySend_cfg : (s.trySend).cfg = s.cfg := by simp only [State.trySend]; (repeat' split) <;> simp
@[simp] theorem State.trySend_dc : (s.trySend).dc = s.dc := by simp only [State.trySend]; (repeat' split) <;> simp
@[simp] theorem State.trySend_pv : (s.trySend).pv = s.pv := by simp only [State.trySend]; (repeat' split) <;> simp
@[simp] theorem State.trySend_sc : (s.trySend).sc = s.sc := by simp only [State.trySend]; (repeat' split) <;> simp
@[simp] theorem State.trySend_pw : (s.trySend).pw = s.pw := by simp only [State.trySend]; (repeat' split) <;> simp
@[simp] theorem State.trySend_pl : (s.trySend).pl = s.pl := by simp only [State.trySend]; (repeat' split) <;> simp
@[simp] theorem State.trySend_ps : (s.trySend).ps = s.ps := by simp only [State.trySend]; (repeat' split) <;> simp
@[simp] theorem State.trySend_pending : (s.trySend).pending = s.pending := by simp only [State.trySend]; (repeat' split) <;> simp

@[simp] theorem State.enqueue_sl (f : OwnFrame) : (State.enqueue f s).sl = s.sl := by simp [State.enqueue]
@[simp] theorem State.enqueue_cfg (f : OwnFrame) : (State.enqueue f s).cfg = s.cfg := by simp [State.enqueue]
@[simp] theorem State.enqueue_dc (f : OwnFrame) : (State.enqueue f s).dc = s.dc := by simp [State.enqueue]
@[simp] theorem State.enqueue_pv (f : OwnFrame) : (State.enqueue f s).pv = s.pv := by simp [State.enqueue]
@[simp] theorem State.enqueue_sc (f : OwnFrame) : (State.enqueue f s).sc = s.sc := by simp [State.enqueue]
@[simp] theorem State.enqueue_pw (f : OwnFrame) : (State.enqueue f s).pw = s.pw := by simp [State.enqueue]
@[simp] theorem State.enqueue_pl (f : OwnFrame) : (State.enqueue f s).pl = s.pl := by simp [State.enqueue]
@[simp] theorem State.enqueue_ps (f : OwnFrame) : (State.enqueue f s).ps = s.ps := by simp [State.enqueue]
@[simp] theorem State.enqueue_pending (f : OwnFrame) : (State.enqueue f s).pending = s.pending := by simp [State.enqueue]

@[simp] theorem State.queueReport_sl (kind : ReportKind) (tag : VanTag) (detail : Nat) : (State.queueReport kind tag detail s).sl = s.sl := by simp only [State.queueReport]; (repeat' split) <;> simp
@[simp] theorem State.queueReport_cfg (kind : ReportKind) (tag : VanTag) (detail : Nat) : (State.queueReport kind tag detail s).cfg = s.cfg := by simp only [State.queueReport]; (repeat' split) <;> simp
@[simp] theorem State.queueReport_dc (kind : ReportKind) (tag : VanTag) (detail : Nat) : (State.queueReport kind tag detail s).dc = s.dc := by simp only [State.queueReport]; (repeat' split) <;> simp
@[simp] theorem State.queueReport_pv (kind : ReportKind) (tag : VanTag) (detail : Nat) : (State.queueReport kind tag detail s).pv = s.pv := by simp only [State.queueReport]; (repeat' split) <;> simp
@[simp] theorem State.queueReport_sc (kind : ReportKind) (tag : VanTag) (detail : Nat) : (State.queueReport kind tag detail s).sc = s.sc := by simp only [State.queueReport]; (repeat' split) <;> simp
@[simp] theorem State.queueReport_pw (kind : ReportKind) (tag : VanTag) (detail : Nat) : (State.queueReport kind tag detail s).pw = s.pw := by simp only [State.queueReport]; (repeat' split) <;> simp
@[simp] theorem State.queueReport_pl (kind : ReportKind) (tag : VanTag) (detail : Nat) : (State.queueReport kind tag detail s).pl = s.pl := by simp only [State.queueReport]; (repeat' split) <;> simp
@[simp] theorem State.queueReport_ps (kind : ReportKind) (tag : VanTag) (detail : Nat) : (State.queueReport kind tag detail s).ps = s.ps := by simp only [State.queueReport]; (repeat' split) <;> simp
@[simp] theorem State.queueReport_pending (kind : ReportKind) (tag : VanTag) (detail : Nat) : (State.queueReport kind tag detail s).pending = s.pending := by simp only [State.queueReport]; (repeat' split) <;> simp

@[simp] theorem State.placeStatus_sl : (s.placeStatus).sl = s.sl := by simp [State.placeStatus]
@[simp] theorem State.placeStatus_cfg : (s.placeStatus).cfg = s.cfg := by simp [State.placeStatus]
@[simp] theorem State.placeStatus_li : (s.placeStatus).li = s.li := by simp [State.placeStatus]
@[simp] theorem State.placeStatus_dc : (s.placeStatus).dc = s.dc := by simp [State.placeStatus]
@[simp] theorem State.placeStatus_pv : (s.placeStatus).pv = s.pv := by simp [State.placeStatus]
@[simp] theorem State.placeStatus_sc : (s.placeStatus).sc = s.sc := by simp [State.placeStatus]
@[simp] theorem State.placeStatus_pw : (s.placeStatus).pw = s.pw := by simp [State.placeStatus]
@[simp] theorem State.placeStatus_ps : (s.placeStatus).ps = s.ps := by simp [State.placeStatus]
@[simp] theorem State.placeStatus_pending : (s.placeStatus).pending = s.pending := by simp [State.placeStatus]

@[simp] theorem State.placeHeater_sl (h : Heaters) : (State.placeHeater h s).sl = s.sl := by simp [State.placeHeater]
@[simp] theorem State.placeHeater_cfg (h : Heaters) : (State.placeHeater h s).cfg = s.cfg := by simp [State.placeHeater]
@[simp] theorem State.placeHeater_li (h : Heaters) : (State.placeHeater h s).li = s.li := by simp [State.placeHeater]
@[simp] theorem State.placeHeater_dc (h : Heaters) : (State.placeHeater h s).dc = s.dc := by simp [State.placeHeater]
@[simp] theorem State.placeHeater_pv (h : Heaters) : (State.placeHeater h s).pv = s.pv := by simp [State.placeHeater]
@[simp] theorem State.placeHeater_sc (h : Heaters) : (State.placeHeater h s).sc = s.sc := by simp [State.placeHeater]
@[simp] theorem State.placeHeater_pw (h : Heaters) : (State.placeHeater h s).pw = s.pw := by simp [State.placeHeater]
@[simp] theorem State.placeHeater_ps (h : Heaters) : (State.placeHeater h s).ps = s.ps := by simp [State.placeHeater]
@[simp] theorem State.placeHeater_pending (h : Heaters) : (State.placeHeater h s).pending = s.pending := by simp [State.placeHeater]

@[simp] theorem State.settleLink_sl : (s.settleLink).sl = s.sl := by simp [State.settleLink]
@[simp] theorem State.settleLink_cfg : (s.settleLink).cfg = s.cfg := by simp [State.settleLink]
@[simp] theorem State.settleLink_li : (s.settleLink).li = s.li := by simp [State.settleLink]
@[simp] theorem State.settleLink_dc : (s.settleLink).dc = s.dc := by simp [State.settleLink]
@[simp] theorem State.settleLink_pv : (s.settleLink).pv = s.pv := by simp [State.settleLink]
@[simp] theorem State.settleLink_sc : (s.settleLink).sc = s.sc := by simp [State.settleLink]
@[simp] theorem State.settleLink_pw : (s.settleLink).pw = s.pw := by simp [State.settleLink]
@[simp] theorem State.settleLink_ps : (s.settleLink).ps = s.ps := by simp [State.settleLink]
@[simp] theorem State.settleLink_pending : (s.settleLink).pending = s.pending := by simp [State.settleLink]

@[simp] theorem State.judgeContactor_sl : (s.judgeContactor).sl = s.sl := by simp [State.judgeContactor]
@[simp] theorem State.judgeContactor_cfg : (s.judgeContactor).cfg = s.cfg := by simp [State.judgeContactor]
@[simp] theorem State.judgeContactor_li : (s.judgeContactor).li = s.li := by simp [State.judgeContactor]
@[simp] theorem State.judgeContactor_dc : (s.judgeContactor).dc = s.dc := by simp [State.judgeContactor]
@[simp] theorem State.judgeContactor_pv : (s.judgeContactor).pv = s.pv := by simp [State.judgeContactor]
@[simp] theorem State.judgeContactor_sc : (s.judgeContactor).sc = s.sc := by simp [State.judgeContactor]
@[simp] theorem State.judgeContactor_pw : (s.judgeContactor).pw = s.pw := by simp [State.judgeContactor]
@[simp] theorem State.judgeContactor_pl : (s.judgeContactor).pl = s.pl := by simp [State.judgeContactor]
@[simp] theorem State.judgeContactor_pending : (s.judgeContactor).pending = s.pending := by simp [State.judgeContactor]

@[simp] theorem State.tellPower_sl : (s.tellPower).sl = s.sl := by simp [State.tellPower]
@[simp] theorem State.tellPower_cfg : (s.tellPower).cfg = s.cfg := by simp [State.tellPower]
@[simp] theorem State.tellPower_li : (s.tellPower).li = s.li := by simp [State.tellPower]
@[simp] theorem State.tellPower_dc : (s.tellPower).dc = s.dc := by simp [State.tellPower]
@[simp] theorem State.tellPower_pv : (s.tellPower).pv = s.pv := by simp [State.tellPower]
@[simp] theorem State.tellPower_sc : (s.tellPower).sc = s.sc := by simp [State.tellPower]
@[simp] theorem State.tellPower_pw : (s.tellPower).pw = s.pw := by simp [State.tellPower]
@[simp] theorem State.tellPower_pl : (s.tellPower).pl = s.pl := by simp [State.tellPower]
@[simp] theorem State.tellPower_pending : (s.tellPower).pending = s.pending := by simp [State.tellPower]

@[simp] theorem State.handAccept_sl (v : Nat) : (State.handAccept v s).sl = s.sl := by simp [State.handAccept]
@[simp] theorem State.handAccept_cfg (v : Nat) : (State.handAccept v s).cfg = s.cfg := by simp [State.handAccept]
@[simp] theorem State.handAccept_li (v : Nat) : (State.handAccept v s).li = s.li := by simp [State.handAccept]
@[simp] theorem State.handAccept_dc (v : Nat) : (State.handAccept v s).dc = s.dc := by simp [State.handAccept]
@[simp] theorem State.handAccept_pv (v : Nat) : (State.handAccept v s).pv = s.pv := by simp [State.handAccept]
@[simp] theorem State.handAccept_sc (v : Nat) : (State.handAccept v s).sc = s.sc := by simp [State.handAccept]
@[simp] theorem State.handAccept_pw (v : Nat) : (State.handAccept v s).pw = s.pw := by simp [State.handAccept]
@[simp] theorem State.handAccept_pending (v : Nat) : (State.handAccept v s).pending = s.pending := by simp [State.handAccept]

@[simp] theorem State.checkAt_sl (p : WalkerPos) (st : ProgStep) : (State.checkAt p st s).sl = s.sl := by simp only [State.checkAt]; (repeat' split) <;> simp
@[simp] theorem State.checkAt_cfg (p : WalkerPos) (st : ProgStep) : (State.checkAt p st s).cfg = s.cfg := by simp only [State.checkAt]; (repeat' split) <;> simp
@[simp] theorem State.checkAt_li (p : WalkerPos) (st : ProgStep) : (State.checkAt p st s).li = s.li := by simp only [State.checkAt]; (repeat' split) <;> simp
@[simp] theorem State.checkAt_dc (p : WalkerPos) (st : ProgStep) : (State.checkAt p st s).dc = s.dc := by simp only [State.checkAt]; (repeat' split) <;> simp
@[simp] theorem State.checkAt_pv (p : WalkerPos) (st : ProgStep) : (State.checkAt p st s).pv = s.pv := by simp only [State.checkAt]; (repeat' split) <;> simp
@[simp] theorem State.checkAt_sc (p : WalkerPos) (st : ProgStep) : (State.checkAt p st s).sc = s.sc := by simp only [State.checkAt]; (repeat' split) <;> simp
@[simp] theorem State.checkAt_pending (p : WalkerPos) (st : ProgStep) : (State.checkAt p st s).pending = s.pending := by simp only [State.checkAt]; (repeat' split) <;> simp

@[simp] theorem State.stateCheck_sl : (s.stateCheck).sl = s.sl := by simp only [State.stateCheck]; (repeat' split) <;> simp
@[simp] theorem State.stateCheck_cfg : (s.stateCheck).cfg = s.cfg := by simp only [State.stateCheck]; (repeat' split) <;> simp
@[simp] theorem State.stateCheck_li : (s.stateCheck).li = s.li := by simp only [State.stateCheck]; (repeat' split) <;> simp
@[simp] theorem State.stateCheck_dc : (s.stateCheck).dc = s.dc := by simp only [State.stateCheck]; (repeat' split) <;> simp
@[simp] theorem State.stateCheck_pv : (s.stateCheck).pv = s.pv := by simp only [State.stateCheck]; (repeat' split) <;> simp
@[simp] theorem State.stateCheck_sc : (s.stateCheck).sc = s.sc := by simp only [State.stateCheck]; (repeat' split) <;> simp
@[simp] theorem State.stateCheck_pending : (s.stateCheck).pending = s.pending := by simp only [State.stateCheck]; (repeat' split) <;> simp

@[simp] theorem State.checkWalking_sl : (s.checkWalking).sl = s.sl := by simp only [State.checkWalking]; (repeat' split) <;> simp
@[simp] theorem State.checkWalking_cfg : (s.checkWalking).cfg = s.cfg := by simp only [State.checkWalking]; (repeat' split) <;> simp
@[simp] theorem State.checkWalking_li : (s.checkWalking).li = s.li := by simp only [State.checkWalking]; (repeat' split) <;> simp
@[simp] theorem State.checkWalking_dc : (s.checkWalking).dc = s.dc := by simp only [State.checkWalking]; (repeat' split) <;> simp
@[simp] theorem State.checkWalking_pv : (s.checkWalking).pv = s.pv := by simp only [State.checkWalking]; (repeat' split) <;> simp
@[simp] theorem State.checkWalking_sc : (s.checkWalking).sc = s.sc := by simp only [State.checkWalking]; (repeat' split) <;> simp
@[simp] theorem State.checkWalking_pending : (s.checkWalking).pending = s.pending := by simp only [State.checkWalking]; (repeat' split) <;> simp

@[simp] theorem State.setHolds_sl (h : HoldSet) : (State.setHolds h s).sl = s.sl := by simp [State.setHolds]
@[simp] theorem State.setHolds_cfg (h : HoldSet) : (State.setHolds h s).cfg = s.cfg := by simp [State.setHolds]
@[simp] theorem State.setHolds_li (h : HoldSet) : (State.setHolds h s).li = s.li := by simp [State.setHolds]
@[simp] theorem State.setHolds_dc (h : HoldSet) : (State.setHolds h s).dc = s.dc := by simp [State.setHolds]
@[simp] theorem State.setHolds_pv (h : HoldSet) : (State.setHolds h s).pv = s.pv := by simp [State.setHolds]
@[simp] theorem State.setHolds_sc (h : HoldSet) : (State.setHolds h s).sc = s.sc := by simp [State.setHolds]
@[simp] theorem State.setHolds_pending (h : HoldSet) : (State.setHolds h s).pending = s.pending := by simp [State.setHolds]

@[simp] theorem State.setCloseLatch_sl : (s.setCloseLatch).sl = s.sl := by simp [State.setCloseLatch]
@[simp] theorem State.setCloseLatch_cfg : (s.setCloseLatch).cfg = s.cfg := by simp [State.setCloseLatch]
@[simp] theorem State.setCloseLatch_dc : (s.setCloseLatch).dc = s.dc := by simp [State.setCloseLatch]
@[simp] theorem State.setCloseLatch_pv : (s.setCloseLatch).pv = s.pv := by simp [State.setCloseLatch]
@[simp] theorem State.setCloseLatch_sc : (s.setCloseLatch).sc = s.sc := by simp [State.setCloseLatch]
@[simp] theorem State.setCloseLatch_pending : (s.setCloseLatch).pending = s.pending := by simp [State.setCloseLatch]

@[simp] theorem State.setWeldLatch_sl : (s.setWeldLatch).sl = s.sl := by simp [State.setWeldLatch]
@[simp] theorem State.setWeldLatch_cfg : (s.setWeldLatch).cfg = s.cfg := by simp [State.setWeldLatch]
@[simp] theorem State.setWeldLatch_dc : (s.setWeldLatch).dc = s.dc := by simp [State.setWeldLatch]
@[simp] theorem State.setWeldLatch_pv : (s.setWeldLatch).pv = s.pv := by simp [State.setWeldLatch]
@[simp] theorem State.setWeldLatch_sc : (s.setWeldLatch).sc = s.sc := by simp [State.setWeldLatch]
@[simp] theorem State.setWeldLatch_pending : (s.setWeldLatch).pending = s.pending := by simp [State.setWeldLatch]

@[simp] theorem State.failedClose_sl : (s.failedClose).sl = s.sl := by simp only [State.failedClose]; (repeat' split) <;> simp
@[simp] theorem State.failedClose_cfg : (s.failedClose).cfg = s.cfg := by simp only [State.failedClose]; (repeat' split) <;> simp
@[simp] theorem State.failedClose_dc : (s.failedClose).dc = s.dc := by simp only [State.failedClose]; (repeat' split) <;> simp
@[simp] theorem State.failedClose_pv : (s.failedClose).pv = s.pv := by simp only [State.failedClose]; (repeat' split) <;> simp
@[simp] theorem State.failedClose_sc : (s.failedClose).sc = s.sc := by simp only [State.failedClose]; (repeat' split) <;> simp
@[simp] theorem State.failedClose_pending : (s.failedClose).pending = s.pending := by simp only [State.failedClose]; (repeat' split) <;> simp

end Sys2Proof.Machine
end

