-- ==== Sys2Proof/Laws/FrameProgramme.lean ====
section
/-! SUPPORT. Frames of the Programme Walker's operations: which blocks each leaves as they were. -/

namespace Sys2Proof.Machine

variable (s : State)

@[simp] theorem State.heaterOff_sl : (s.heaterOff).sl = s.sl := by simp only [State.heaterOff]; (repeat' split) <;> simp
@[simp] theorem State.heaterOff_cfg : (s.heaterOff).cfg = s.cfg := by simp only [State.heaterOff]; (repeat' split) <;> simp
@[simp] theorem State.heaterOff_li : (s.heaterOff).li = s.li := by simp only [State.heaterOff]; (repeat' split) <;> simp
@[simp] theorem State.heaterOff_dc : (s.heaterOff).dc = s.dc := by simp only [State.heaterOff]; (repeat' split) <;> simp
@[simp] theorem State.heaterOff_pv : (s.heaterOff).pv = s.pv := by simp only [State.heaterOff]; (repeat' split) <;> simp
@[simp] theorem State.heaterOff_sc : (s.heaterOff).sc = s.sc := by simp only [State.heaterOff]; (repeat' split) <;> simp
@[simp] theorem State.heaterOff_pw : (s.heaterOff).pw = s.pw := by simp only [State.heaterOff]; (repeat' split) <;> simp
@[simp] theorem State.heaterOff_ps : (s.heaterOff).ps = s.ps := by simp only [State.heaterOff]; (repeat' split) <;> simp
@[simp] theorem State.heaterOff_pending : (s.heaterOff).pending = s.pending := by simp only [State.heaterOff]; (repeat' split) <;> simp

@[simp] theorem State.enterStep_sl (kind : StepKind) : (State.enterStep kind s).sl = s.sl := by simp [State.enterStep]
@[simp] theorem State.enterStep_cfg (kind : StepKind) : (State.enterStep kind s).cfg = s.cfg := by simp [State.enterStep]
@[simp] theorem State.enterStep_li (kind : StepKind) : (State.enterStep kind s).li = s.li := by simp [State.enterStep]
@[simp] theorem State.enterStep_dc (kind : StepKind) : (State.enterStep kind s).dc = s.dc := by simp [State.enterStep]
@[simp] theorem State.enterStep_pv (kind : StepKind) : (State.enterStep kind s).pv = s.pv := by simp [State.enterStep]
@[simp] theorem State.enterStep_sc (kind : StepKind) : (State.enterStep kind s).sc = s.sc := by simp [State.enterStep]
@[simp] theorem State.enterStep_pending (kind : StepKind) : (State.enterStep kind s).pending = s.pending := by simp [State.enterStep]

@[simp] theorem State.buildDone_sl : (s.buildDone).sl = s.sl := by simp [State.buildDone]
@[simp] theorem State.buildDone_cfg : (s.buildDone).cfg = s.cfg := by simp [State.buildDone]
@[simp] theorem State.buildDone_dc : (s.buildDone).dc = s.dc := by simp [State.buildDone]
@[simp] theorem State.buildDone_pv : (s.buildDone).pv = s.pv := by simp [State.buildDone]
@[simp] theorem State.buildDone_sc : (s.buildDone).sc = s.sc := by simp [State.buildDone]
@[simp] theorem State.buildDone_pl : (s.buildDone).pl = s.pl.placeStatus := by simp [State.buildDone, State.placeStatus]
@[simp] theorem State.buildDone_pending : (s.buildDone).pending = s.pending := by simp [State.buildDone]

@[simp] theorem State.buildWalk_sl (first : ProgStep) (rest : List ProgStep) : (State.buildWalk first rest s).sl = s.sl := by simp [State.buildWalk]
@[simp] theorem State.buildWalk_cfg (first : ProgStep) (rest : List ProgStep) : (State.buildWalk first rest s).cfg = s.cfg := by simp [State.buildWalk]
@[simp] theorem State.buildWalk_li (first : ProgStep) (rest : List ProgStep) : (State.buildWalk first rest s).li = s.li := by simp [State.buildWalk]
@[simp] theorem State.buildWalk_dc (first : ProgStep) (rest : List ProgStep) : (State.buildWalk first rest s).dc = s.dc := by simp [State.buildWalk]
@[simp] theorem State.buildWalk_pv (first : ProgStep) (rest : List ProgStep) : (State.buildWalk first rest s).pv = s.pv := by simp [State.buildWalk]
@[simp] theorem State.buildWalk_sc (first : ProgStep) (rest : List ProgStep) : (State.buildWalk first rest s).sc = s.sc := by simp [State.buildWalk]
@[simp] theorem State.buildWalk_pending (first : ProgStep) (rest : List ProgStep) : (State.buildWalk first rest s).pending = s.pending := by simp [State.buildWalk]

@[simp] theorem State.build_sl (plan : Plan) (van : AttachedVan) (st : VanStatus) : (State.build plan van st s).sl = s.sl := by simp only [State.build]; (repeat' split) <;> simp
@[simp] theorem State.build_cfg (plan : Plan) (van : AttachedVan) (st : VanStatus) : (State.build plan van st s).cfg = s.cfg := by simp only [State.build]; (repeat' split) <;> simp
@[simp] theorem State.build_dc (plan : Plan) (van : AttachedVan) (st : VanStatus) : (State.build plan van st s).dc = s.dc := by simp only [State.build]; (repeat' split) <;> simp
@[simp] theorem State.build_pv (plan : Plan) (van : AttachedVan) (st : VanStatus) : (State.build plan van st s).pv = s.pv := by simp only [State.build]; (repeat' split) <;> simp
@[simp] theorem State.build_sc (plan : Plan) (van : AttachedVan) (st : VanStatus) : (State.build plan van st s).sc = s.sc := by simp only [State.build]; (repeat' split) <;> simp
@[simp] theorem State.build_pending (plan : Plan) (van : AttachedVan) (st : VanStatus) : (State.build plan van st s).pending = s.pending := by simp only [State.build]; (repeat' split) <;> simp

@[simp] theorem State.buildOrAwait_sl : (s.buildOrAwait).sl = s.sl := by simp only [State.buildOrAwait]; (repeat' split) <;> simp
@[simp] theorem State.buildOrAwait_cfg : (s.buildOrAwait).cfg = s.cfg := by simp only [State.buildOrAwait]; (repeat' split) <;> simp
@[simp] theorem State.buildOrAwait_dc : (s.buildOrAwait).dc = s.dc := by simp only [State.buildOrAwait]; (repeat' split) <;> simp
@[simp] theorem State.buildOrAwait_pv : (s.buildOrAwait).pv = s.pv := by simp only [State.buildOrAwait]; (repeat' split) <;> simp
@[simp] theorem State.buildOrAwait_sc : (s.buildOrAwait).sc = s.sc := by simp only [State.buildOrAwait]; (repeat' split) <;> simp
@[simp] theorem State.buildOrAwait_pending : (s.buildOrAwait).pending = s.pending := by simp only [State.buildOrAwait]; (repeat' split) <;> simp

@[simp] theorem State.finish_sl (p : WalkerPos) : (State.finish p s).sl = s.sl := by simp [State.finish]
@[simp] theorem State.finish_cfg (p : WalkerPos) : (State.finish p s).cfg = s.cfg := by simp [State.finish]
@[simp] theorem State.finish_dc (p : WalkerPos) : (State.finish p s).dc = s.dc := by simp [State.finish]
@[simp] theorem State.finish_pv (p : WalkerPos) : (State.finish p s).pv = s.pv := by simp [State.finish]
@[simp] theorem State.finish_sc (p : WalkerPos) : (State.finish p s).sc = s.sc := by simp [State.finish]
@[simp] theorem State.finish_pl (p : WalkerPos) : (State.finish p s).pl = s.pl := by simp [State.finish]
@[simp] theorem State.finish_pending (p : WalkerPos) : (State.finish p s).pending = s.pending := by simp [State.finish]

@[simp] theorem State.changeStep_sl (p : WalkerPos) (nextStep : ProgStep) : (State.changeStep p nextStep s).sl = s.sl := by simp [State.changeStep]
@[simp] theorem State.changeStep_cfg (p : WalkerPos) (nextStep : ProgStep) : (State.changeStep p nextStep s).cfg = s.cfg := by simp [State.changeStep]
@[simp] theorem State.changeStep_li (p : WalkerPos) (nextStep : ProgStep) : (State.changeStep p nextStep s).li = s.li := by simp [State.changeStep]
@[simp] theorem State.changeStep_dc (p : WalkerPos) (nextStep : ProgStep) : (State.changeStep p nextStep s).dc = s.dc := by simp [State.changeStep]
@[simp] theorem State.changeStep_pv (p : WalkerPos) (nextStep : ProgStep) : (State.changeStep p nextStep s).pv = s.pv := by simp [State.changeStep]
@[simp] theorem State.changeStep_sc (p : WalkerPos) (nextStep : ProgStep) : (State.changeStep p nextStep s).sc = s.sc := by simp [State.changeStep]
@[simp] theorem State.changeStep_pending (p : WalkerPos) (nextStep : ProgStep) : (State.changeStep p nextStep s).pending = s.pending := by simp [State.changeStep]

@[simp] theorem State.afterStep_sl (p : WalkerPos) (st : ProgStep) : (State.afterStep p st s).sl = s.sl := by simp only [State.afterStep]; (repeat' split) <;> simp
@[simp] theorem State.afterStep_cfg (p : WalkerPos) (st : ProgStep) : (State.afterStep p st s).cfg = s.cfg := by simp only [State.afterStep]; (repeat' split) <;> simp
@[simp] theorem State.afterStep_dc (p : WalkerPos) (st : ProgStep) : (State.afterStep p st s).dc = s.dc := by simp only [State.afterStep]; (repeat' split) <;> simp
@[simp] theorem State.afterStep_pv (p : WalkerPos) (st : ProgStep) : (State.afterStep p st s).pv = s.pv := by simp only [State.afterStep]; (repeat' split) <;> simp
@[simp] theorem State.afterStep_sc (p : WalkerPos) (st : ProgStep) : (State.afterStep p st s).sc = s.sc := by simp only [State.afterStep]; (repeat' split) <;> simp
@[simp] theorem State.afterStep_pending (p : WalkerPos) (st : ProgStep) : (State.afterStep p st s).pending = s.pending := by simp only [State.afterStep]; (repeat' split) <;> simp

@[simp] theorem State.endStep_sl (refusal : Bool) : (State.endStep refusal s).sl = s.sl := by simp only [State.endStep]; (repeat' split) <;> simp
@[simp] theorem State.endStep_cfg (refusal : Bool) : (State.endStep refusal s).cfg = s.cfg := by simp only [State.endStep]; (repeat' split) <;> simp
@[simp] theorem State.endStep_dc (refusal : Bool) : (State.endStep refusal s).dc = s.dc := by simp only [State.endStep]; (repeat' split) <;> simp
@[simp] theorem State.endStep_pv (refusal : Bool) : (State.endStep refusal s).pv = s.pv := by simp only [State.endStep]; (repeat' split) <;> simp
@[simp] theorem State.endStep_sc (refusal : Bool) : (State.endStep refusal s).sc = s.sc := by simp only [State.endStep]; (repeat' split) <;> simp
@[simp] theorem State.endStep_pending (refusal : Bool) : (State.endStep refusal s).pending = s.pending := by simp only [State.endStep]; (repeat' split) <;> simp

@[simp] theorem State.minuteRoll_sl (clockSet : Bool) : (State.minuteRoll clockSet s).sl = s.sl := by simp only [State.minuteRoll]; (repeat' split) <;> simp
@[simp] theorem State.minuteRoll_cfg (clockSet : Bool) : (State.minuteRoll clockSet s).cfg = s.cfg := by simp only [State.minuteRoll]; (repeat' split) <;> simp
@[simp] theorem State.minuteRoll_dc (clockSet : Bool) : (State.minuteRoll clockSet s).dc = s.dc := by simp only [State.minuteRoll]; (repeat' split) <;> simp
@[simp] theorem State.minuteRoll_pv (clockSet : Bool) : (State.minuteRoll clockSet s).pv = s.pv := by simp only [State.minuteRoll]; (repeat' split) <;> simp
@[simp] theorem State.minuteRoll_sc (clockSet : Bool) : (State.minuteRoll clockSet s).sc = s.sc := by simp only [State.minuteRoll]; (repeat' split) <;> simp
@[simp] theorem State.minuteRoll_pending (clockSet : Bool) : (State.minuteRoll clockSet s).pending = s.pending := by simp only [State.minuteRoll]; (repeat' split) <;> simp

@[simp] theorem State.gateReport_sl (closed : Bool) : (State.gateReport closed s).sl = s.sl := by simp [State.gateReport]
@[simp] theorem State.gateReport_cfg (closed : Bool) : (State.gateReport closed s).cfg = s.cfg := by simp [State.gateReport]
@[simp] theorem State.gateReport_li (closed : Bool) : (State.gateReport closed s).li = s.li := by simp [State.gateReport]
@[simp] theorem State.gateReport_dc (closed : Bool) : (State.gateReport closed s).dc = s.dc := by simp [State.gateReport]
@[simp] theorem State.gateReport_pv (closed : Bool) : (State.gateReport closed s).pv = s.pv := by simp [State.gateReport]
@[simp] theorem State.gateReport_sc (closed : Bool) : (State.gateReport closed s).sc = s.sc := by simp [State.gateReport]
@[simp] theorem State.gateReport_pending (closed : Bool) : (State.gateReport closed s).pending = s.pending := by simp [State.gateReport]

@[simp] theorem State.freshArrival_sl (tag : VanTag) (capacity : Nat) : (State.freshArrival tag capacity s).sl = s.sl := by simp [State.freshArrival]
@[simp] theorem State.freshArrival_cfg (tag : VanTag) (capacity : Nat) : (State.freshArrival tag capacity s).cfg = s.cfg := by simp [State.freshArrival]
@[simp] theorem State.freshArrival_dc (tag : VanTag) (capacity : Nat) : (State.freshArrival tag capacity s).dc = s.dc := by simp [State.freshArrival]
@[simp] theorem State.freshArrival_pv (tag : VanTag) (capacity : Nat) : (State.freshArrival tag capacity s).pv = s.pv := by simp [State.freshArrival]
@[simp] theorem State.freshArrival_sc (tag : VanTag) (capacity : Nat) : (State.freshArrival tag capacity s).sc = s.sc := by simp [State.freshArrival]
@[simp] theorem State.freshArrival_pending (tag : VanTag) (capacity : Nat) : (State.freshArrival tag capacity s).pending = s.pending := by simp [State.freshArrival]

@[simp] theorem State.vanIdentified_sl (tag : VanTag) (capacity : Nat) : (State.vanIdentified tag capacity s).sl = s.sl := by simp only [State.vanIdentified]; (repeat' split) <;> simp
@[simp] theorem State.vanIdentified_cfg (tag : VanTag) (capacity : Nat) : (State.vanIdentified tag capacity s).cfg = s.cfg := by simp only [State.vanIdentified]; (repeat' split) <;> simp
@[simp] theorem State.vanIdentified_dc (tag : VanTag) (capacity : Nat) : (State.vanIdentified tag capacity s).dc = s.dc := by simp only [State.vanIdentified]; (repeat' split) <;> simp
@[simp] theorem State.vanIdentified_pv (tag : VanTag) (capacity : Nat) : (State.vanIdentified tag capacity s).pv = s.pv := by simp only [State.vanIdentified]; (repeat' split) <;> simp
@[simp] theorem State.vanIdentified_sc (tag : VanTag) (capacity : Nat) : (State.vanIdentified tag capacity s).sc = s.sc := by simp only [State.vanIdentified]; (repeat' split) <;> simp
@[simp] theorem State.vanIdentified_pending (tag : VanTag) (capacity : Nat) : (State.vanIdentified tag capacity s).pending = s.pending := by simp only [State.vanIdentified]; (repeat' split) <;> simp

@[simp] theorem State.differentVan_sl (tag : VanTag) (capacity : Nat) : (State.differentVan tag capacity s).sl = s.sl := by simp only [State.differentVan]; (repeat' split) <;> simp
@[simp] theorem State.differentVan_cfg (tag : VanTag) (capacity : Nat) : (State.differentVan tag capacity s).cfg = s.cfg := by simp only [State.differentVan]; (repeat' split) <;> simp
@[simp] theorem State.differentVan_dc (tag : VanTag) (capacity : Nat) : (State.differentVan tag capacity s).dc = s.dc := by simp only [State.differentVan]; (repeat' split) <;> simp
@[simp] theorem State.differentVan_pv (tag : VanTag) (capacity : Nat) : (State.differentVan tag capacity s).pv = s.pv := by simp only [State.differentVan]; (repeat' split) <;> simp
@[simp] theorem State.differentVan_sc (tag : VanTag) (capacity : Nat) : (State.differentVan tag capacity s).sc = s.sc := by simp only [State.differentVan]; (repeat' split) <;> simp
@[simp] theorem State.differentVan_pending (tag : VanTag) (capacity : Nat) : (State.differentVan tag capacity s).pending = s.pending := by simp only [State.differentVan]; (repeat' split) <;> simp

@[simp] theorem State.sameVan_sl : (s.sameVan).sl = s.sl := by simp [State.sameVan]
@[simp] theorem State.sameVan_cfg : (s.sameVan).cfg = s.cfg := by simp [State.sameVan]
@[simp] theorem State.sameVan_li : (s.sameVan).li = s.li := by simp [State.sameVan]
@[simp] theorem State.sameVan_dc : (s.sameVan).dc = s.dc := by simp [State.sameVan]
@[simp] theorem State.sameVan_pv : (s.sameVan).pv = s.pv := by simp [State.sameVan]
@[simp] theorem State.sameVan_sc : (s.sameVan).sc = s.sc := by simp [State.sameVan]
@[simp] theorem State.sameVan_pending : (s.sameVan).pending = s.pending := by simp [State.sameVan]

@[simp] theorem State.linkLostReport_sl : (s.linkLostReport).sl = s.sl := by simp only [State.linkLostReport]; (repeat' split) <;> simp
@[simp] theorem State.linkLostReport_cfg : (s.linkLostReport).cfg = s.cfg := by simp only [State.linkLostReport]; (repeat' split) <;> simp
@[simp] theorem State.linkLostReport_li : (s.linkLostReport).li = s.li := by simp only [State.linkLostReport]; (repeat' split) <;> simp
@[simp] theorem State.linkLostReport_dc : (s.linkLostReport).dc = s.dc := by simp only [State.linkLostReport]; (repeat' split) <;> simp
@[simp] theorem State.linkLostReport_pv : (s.linkLostReport).pv = s.pv := by simp only [State.linkLostReport]; (repeat' split) <;> simp
@[simp] theorem State.linkLostReport_sc : (s.linkLostReport).sc = s.sc := by simp only [State.linkLostReport]; (repeat' split) <;> simp
@[simp] theorem State.linkLostReport_pending : (s.linkLostReport).pending = s.pending := by simp only [State.linkLostReport]; (repeat' split) <;> simp

@[simp] theorem State.walkerPlugRemoved_sl : (s.walkerPlugRemoved).sl = s.sl := by simp only [State.walkerPlugRemoved]; (repeat' split) <;> simp
@[simp] theorem State.walkerPlugRemoved_cfg : (s.walkerPlugRemoved).cfg = s.cfg := by simp only [State.walkerPlugRemoved]; (repeat' split) <;> simp
@[simp] theorem State.walkerPlugRemoved_dc : (s.walkerPlugRemoved).dc = s.dc := by simp only [State.walkerPlugRemoved]; (repeat' split) <;> simp
@[simp] theorem State.walkerPlugRemoved_pv : (s.walkerPlugRemoved).pv = s.pv := by simp only [State.walkerPlugRemoved]; (repeat' split) <;> simp
@[simp] theorem State.walkerPlugRemoved_sc : (s.walkerPlugRemoved).sc = s.sc := by simp only [State.walkerPlugRemoved]; (repeat' split) <;> simp
@[simp] theorem State.walkerPlugRemoved_pl : (s.walkerPlugRemoved).pl = s.pl := by simp only [State.walkerPlugRemoved]; (repeat' split) <;> simp
@[simp] theorem State.walkerPlugRemoved_pending : (s.walkerPlugRemoved).pending = s.pending := by simp only [State.walkerPlugRemoved]; (repeat' split) <;> simp

@[simp] theorem State.takeStatus_sl (soc : Nat) (temperature : Int) : (State.takeStatus soc temperature s).sl = s.sl := by simp only [State.takeStatus]; (repeat' split) <;> simp
@[simp] theorem State.takeStatus_cfg (soc : Nat) (temperature : Int) : (State.takeStatus soc temperature s).cfg = s.cfg := by simp only [State.takeStatus]; (repeat' split) <;> simp
@[simp] theorem State.takeStatus_dc (soc : Nat) (temperature : Int) : (State.takeStatus soc temperature s).dc = s.dc := by simp only [State.takeStatus]; (repeat' split) <;> simp
@[simp] theorem State.takeStatus_pv (soc : Nat) (temperature : Int) : (State.takeStatus soc temperature s).pv = s.pv := by simp only [State.takeStatus]; (repeat' split) <;> simp
@[simp] theorem State.takeStatus_sc (soc : Nat) (temperature : Int) : (State.takeStatus soc temperature s).sc = s.sc := by simp only [State.takeStatus]; (repeat' split) <;> simp
@[simp] theorem State.takeStatus_pending (soc : Nat) (temperature : Int) : (State.takeStatus soc temperature s).pending = s.pending := by simp only [State.takeStatus]; (repeat' split) <;> simp

@[simp] theorem State.heaterRefused_sl (h : Heaters) : (State.heaterRefused h s).sl = s.sl := by simp only [State.heaterRefused]; (repeat' split) <;> simp
@[simp] theorem State.heaterRefused_cfg (h : Heaters) : (State.heaterRefused h s).cfg = s.cfg := by simp only [State.heaterRefused]; (repeat' split) <;> simp
@[simp] theorem State.heaterRefused_dc (h : Heaters) : (State.heaterRefused h s).dc = s.dc := by simp only [State.heaterRefused]; (repeat' split) <;> simp
@[simp] theorem State.heaterRefused_pv (h : Heaters) : (State.heaterRefused h s).pv = s.pv := by simp only [State.heaterRefused]; (repeat' split) <;> simp
@[simp] theorem State.heaterRefused_sc (h : Heaters) : (State.heaterRefused h s).sc = s.sc := by simp only [State.heaterRefused]; (repeat' split) <;> simp
@[simp] theorem State.heaterRefused_pending (h : Heaters) : (State.heaterRefused h s).pending = s.pending := by simp only [State.heaterRefused]; (repeat' split) <;> simp

@[simp] theorem State.countPulse_sl : (s.countPulse).sl = s.sl := by simp only [State.countPulse]; (repeat' split) <;> simp
@[simp] theorem State.countPulse_cfg : (s.countPulse).cfg = s.cfg := by simp only [State.countPulse]; (repeat' split) <;> simp
@[simp] theorem State.countPulse_dc : (s.countPulse).dc = s.dc := by simp only [State.countPulse]; (repeat' split) <;> simp
@[simp] theorem State.countPulse_pv : (s.countPulse).pv = s.pv := by simp only [State.countPulse]; (repeat' split) <;> simp
@[simp] theorem State.countPulse_sc : (s.countPulse).sc = s.sc := by simp only [State.countPulse]; (repeat' split) <;> simp
@[simp] theorem State.countPulse_pending : (s.countPulse).pending = s.pending := by simp only [State.countPulse]; (repeat' split) <;> simp

@[simp] theorem State.takePlan_sl (plan : Plan) : (State.takePlan plan s).sl = s.sl := by simp only [State.takePlan]; (repeat' split) <;> simp
@[simp] theorem State.takePlan_cfg (plan : Plan) : (State.takePlan plan s).cfg = s.cfg := by simp only [State.takePlan]; (repeat' split) <;> simp
@[simp] theorem State.takePlan_dc (plan : Plan) : (State.takePlan plan s).dc = s.dc := by simp only [State.takePlan]; (repeat' split) <;> simp
@[simp] theorem State.takePlan_pv (plan : Plan) : (State.takePlan plan s).pv = s.pv := by simp only [State.takePlan]; (repeat' split) <;> simp
@[simp] theorem State.takePlan_sc (plan : Plan) : (State.takePlan plan s).sc = s.sc := by simp only [State.takePlan]; (repeat' split) <;> simp
@[simp] theorem State.takePlan_pending (plan : Plan) : (State.takePlan plan s).pending = s.pending := by simp only [State.takePlan]; (repeat' split) <;> simp

@[simp] theorem State.judgePlan_sl (plan : Plan) : (State.judgePlan plan s).sl = s.sl := by simp only [State.judgePlan]; (repeat' split) <;> simp
@[simp] theorem State.judgePlan_cfg (plan : Plan) : (State.judgePlan plan s).cfg = s.cfg := by simp only [State.judgePlan]; (repeat' split) <;> simp
@[simp] theorem State.judgePlan_dc (plan : Plan) : (State.judgePlan plan s).dc = s.dc := by simp only [State.judgePlan]; (repeat' split) <;> simp
@[simp] theorem State.judgePlan_pv (plan : Plan) : (State.judgePlan plan s).pv = s.pv := by simp only [State.judgePlan]; (repeat' split) <;> simp
@[simp] theorem State.judgePlan_sc (plan : Plan) : (State.judgePlan plan s).sc = s.sc := by simp only [State.judgePlan]; (repeat' split) <;> simp
@[simp] theorem State.judgePlan_pending (plan : Plan) : (State.judgePlan plan s).pending = s.pending := by simp only [State.judgePlan]; (repeat' split) <;> simp

@[simp] theorem State.takeCancel_sl (tag : VanTag) (serial : Nat) : (State.takeCancel tag serial s).sl = s.sl := by simp only [State.takeCancel]; (repeat' split) <;> simp
@[simp] theorem State.takeCancel_cfg (tag : VanTag) (serial : Nat) : (State.takeCancel tag serial s).cfg = s.cfg := by simp only [State.takeCancel]; (repeat' split) <;> simp
@[simp] theorem State.takeCancel_dc (tag : VanTag) (serial : Nat) : (State.takeCancel tag serial s).dc = s.dc := by simp only [State.takeCancel]; (repeat' split) <;> simp
@[simp] theorem State.takeCancel_pv (tag : VanTag) (serial : Nat) : (State.takeCancel tag serial s).pv = s.pv := by simp only [State.takeCancel]; (repeat' split) <;> simp
@[simp] theorem State.takeCancel_sc (tag : VanTag) (serial : Nat) : (State.takeCancel tag serial s).sc = s.sc := by simp only [State.takeCancel]; (repeat' split) <;> simp
@[simp] theorem State.takeCancel_pending (tag : VanTag) (serial : Nat) : (State.takeCancel tag serial s).pending = s.pending := by simp only [State.takeCancel]; (repeat' split) <;> simp

@[simp] theorem State.adoptDefault_sl : (s.adoptDefault).sl = s.sl := by simp [State.adoptDefault]
@[simp] theorem State.adoptDefault_cfg : (s.adoptDefault).cfg = s.cfg := by simp [State.adoptDefault]
@[simp] theorem State.adoptDefault_dc : (s.adoptDefault).dc = s.dc := by simp [State.adoptDefault]
@[simp] theorem State.adoptDefault_pv : (s.adoptDefault).pv = s.pv := by simp [State.adoptDefault]
@[simp] theorem State.adoptDefault_sc : (s.adoptDefault).sc = s.sc := by simp [State.adoptDefault]
@[simp] theorem State.adoptDefault_pending : (s.adoptDefault).pending = s.pending := by simp [State.adoptDefault]

@[simp] theorem State.atRiskNotice_sl (forecast : Nat) : (State.atRiskNotice forecast s).sl = s.sl := by simp [State.atRiskNotice]
@[simp] theorem State.atRiskNotice_cfg (forecast : Nat) : (State.atRiskNotice forecast s).cfg = s.cfg := by simp [State.atRiskNotice]
@[simp] theorem State.atRiskNotice_dc (forecast : Nat) : (State.atRiskNotice forecast s).dc = s.dc := by simp [State.atRiskNotice]
@[simp] theorem State.atRiskNotice_pv (forecast : Nat) : (State.atRiskNotice forecast s).pv = s.pv := by simp [State.atRiskNotice]
@[simp] theorem State.atRiskNotice_sc (forecast : Nat) : (State.atRiskNotice forecast s).sc = s.sc := by simp [State.atRiskNotice]
@[simp] theorem State.atRiskNotice_pw (forecast : Nat) : (State.atRiskNotice forecast s).pw = s.pw := by simp [State.atRiskNotice]
@[simp] theorem State.atRiskNotice_pl (forecast : Nat) : (State.atRiskNotice forecast s).pl = s.pl := by simp [State.atRiskNotice]
@[simp] theorem State.atRiskNotice_ps (forecast : Nat) : (State.atRiskNotice forecast s).ps = s.ps := by simp [State.atRiskNotice]
@[simp] theorem State.atRiskNotice_pending (forecast : Nat) : (State.atRiskNotice forecast s).pending = s.pending := by simp [State.atRiskNotice]

end Sys2Proof.Machine
end

