-- ==== Sys2Proof/Laws/FrameRest.lean ====
section
/-! SUPPORT. Frames of the other blocks' operations: which blocks each leaves as they were. -/

namespace Sys2Proof.Machine

variable (s : State)

@[simp] theorem State.moveClock_sl (next : DepotClock) : (State.moveClock next s).sl = s.sl := by simp only [State.moveClock]; (repeat' split) <;> simp
@[simp] theorem State.moveClock_cfg (next : DepotClock) : (State.moveClock next s).cfg = s.cfg := by simp only [State.moveClock]; (repeat' split) <;> simp
@[simp] theorem State.moveClock_pv (next : DepotClock) : (State.moveClock next s).pv = s.pv := by simp only [State.moveClock]; (repeat' split) <;> simp
@[simp] theorem State.moveClock_sc (next : DepotClock) : (State.moveClock next s).sc = s.sc := by simp only [State.moveClock]; (repeat' split) <;> simp
@[simp] theorem State.moveClock_pending (next : DepotClock) : (State.moveClock next s).pending = s.pending := by simp only [State.moveClock]; (repeat' split) <;> simp

@[simp] theorem State.adoptTime_sl (t : Nat) (source : ClockSource) (age : Nat) : (State.adoptTime t source age s).sl = s.sl := by simp [State.adoptTime]
@[simp] theorem State.adoptTime_cfg (t : Nat) (source : ClockSource) (age : Nat) : (State.adoptTime t source age s).cfg = s.cfg := by simp [State.adoptTime]
@[simp] theorem State.adoptTime_pv (t : Nat) (source : ClockSource) (age : Nat) : (State.adoptTime t source age s).pv = s.pv := by simp [State.adoptTime]
@[simp] theorem State.adoptTime_sc (t : Nat) (source : ClockSource) (age : Nat) : (State.adoptTime t source age s).sc = s.sc := by simp [State.adoptTime]
@[simp] theorem State.adoptTime_pending (t : Nat) (source : ClockSource) (age : Nat) : (State.adoptTime t source age s).pending = s.pending := by simp [State.adoptTime]

@[simp] theorem State.offerAnchor_sl (t : Nat) : (State.offerAnchor t s).sl = s.sl := by simp only [State.offerAnchor]; (repeat' split) <;> simp
@[simp] theorem State.offerAnchor_cfg (t : Nat) : (State.offerAnchor t s).cfg = s.cfg := by simp only [State.offerAnchor]; (repeat' split) <;> simp
@[simp] theorem State.offerAnchor_pv (t : Nat) : (State.offerAnchor t s).pv = s.pv := by simp only [State.offerAnchor]; (repeat' split) <;> simp
@[simp] theorem State.offerAnchor_sc (t : Nat) : (State.offerAnchor t s).sc = s.sc := by simp only [State.offerAnchor]; (repeat' split) <;> simp
@[simp] theorem State.offerAnchor_pending (t : Nat) : (State.offerAnchor t s).pending = s.pending := by simp only [State.offerAnchor]; (repeat' split) <;> simp

@[simp] theorem State.offerPeerTime_sl (t : Nat) : (State.offerPeerTime t s).sl = s.sl := by simp only [State.offerPeerTime]; (repeat' split) <;> simp
@[simp] theorem State.offerPeerTime_cfg (t : Nat) : (State.offerPeerTime t s).cfg = s.cfg := by simp only [State.offerPeerTime]; (repeat' split) <;> simp
@[simp] theorem State.offerPeerTime_pv (t : Nat) : (State.offerPeerTime t s).pv = s.pv := by simp only [State.offerPeerTime]; (repeat' split) <;> simp
@[simp] theorem State.offerPeerTime_sc (t : Nat) : (State.offerPeerTime t s).sc = s.sc := by simp only [State.offerPeerTime]; (repeat' split) <;> simp
@[simp] theorem State.offerPeerTime_pending (t : Nat) : (State.offerPeerTime t s).pending = s.pending := by simp only [State.offerPeerTime]; (repeat' split) <;> simp

@[simp] theorem State.idConflict_sl : (s.idConflict).sl = s.sl := by simp only [State.idConflict]; (repeat' split) <;> simp
@[simp] theorem State.idConflict_cfg : (s.idConflict).cfg = s.cfg := by simp only [State.idConflict]; (repeat' split) <;> simp
@[simp] theorem State.idConflict_dc : (s.idConflict).dc = s.dc := by simp only [State.idConflict]; (repeat' split) <;> simp
@[simp] theorem State.idConflict_pw : (s.idConflict).pw = s.pw := by simp only [State.idConflict]; (repeat' split) <;> simp
@[simp] theorem State.idConflict_pl : (s.idConflict).pl = s.pl := by simp only [State.idConflict]; (repeat' split) <;> simp
@[simp] theorem State.idConflict_ps : (s.idConflict).ps = s.ps := by simp only [State.idConflict]; (repeat' split) <;> simp
@[simp] theorem State.idConflict_pending : (s.idConflict).pending = s.pending := by simp only [State.idConflict]; (repeat' split) <;> simp

@[simp] theorem State.viewClaim_sl (c : RxClaim) : (State.viewClaim c s).sl = s.sl := by simp only [State.viewClaim]; (repeat' split) <;> simp
@[simp] theorem State.viewClaim_cfg (c : RxClaim) : (State.viewClaim c s).cfg = s.cfg := by simp only [State.viewClaim]; (repeat' split) <;> simp
@[simp] theorem State.viewClaim_dc (c : RxClaim) : (State.viewClaim c s).dc = s.dc := by simp only [State.viewClaim]; (repeat' split) <;> simp
@[simp] theorem State.viewClaim_pw (c : RxClaim) : (State.viewClaim c s).pw = s.pw := by simp only [State.viewClaim]; (repeat' split) <;> simp
@[simp] theorem State.viewClaim_pl (c : RxClaim) : (State.viewClaim c s).pl = s.pl := by simp only [State.viewClaim]; (repeat' split) <;> simp
@[simp] theorem State.viewClaim_ps (c : RxClaim) : (State.viewClaim c s).ps = s.ps := by simp only [State.viewClaim]; (repeat' split) <;> simp
@[simp] theorem State.viewClaim_pending (c : RxClaim) : (State.viewClaim c s).pending = s.pending := by simp only [State.viewClaim]; (repeat' split) <;> simp

@[simp] theorem State.expiryGate_sl (policy : Option PolicyAnswer) : (State.expiryGate policy s).sl = s.sl := by simp only [State.expiryGate]; (repeat' split) <;> simp
@[simp] theorem State.expiryGate_cfg (policy : Option PolicyAnswer) : (State.expiryGate policy s).cfg = s.cfg := by simp only [State.expiryGate]; (repeat' split) <;> simp
@[simp] theorem State.expiryGate_li (policy : Option PolicyAnswer) : (State.expiryGate policy s).li = s.li := by simp only [State.expiryGate]; (repeat' split) <;> simp
@[simp] theorem State.expiryGate_dc (policy : Option PolicyAnswer) : (State.expiryGate policy s).dc = s.dc := by simp only [State.expiryGate]; (repeat' split) <;> simp
@[simp] theorem State.expiryGate_pv (policy : Option PolicyAnswer) : (State.expiryGate policy s).pv = s.pv := by simp only [State.expiryGate]; (repeat' split) <;> simp
@[simp] theorem State.expiryGate_sc (policy : Option PolicyAnswer) : (State.expiryGate policy s).sc = s.sc := by simp only [State.expiryGate]; (repeat' split) <;> simp
@[simp] theorem State.expiryGate_pending (policy : Option PolicyAnswer) : (State.expiryGate policy s).pending = s.pending := by simp only [State.expiryGate]; (repeat' split) <;> simp

@[simp] theorem State.expiryPosted_sl : (s.expiryPosted).sl = s.sl := by simp [State.expiryPosted]
@[simp] theorem State.expiryPosted_cfg : (s.expiryPosted).cfg = s.cfg := by simp [State.expiryPosted]
@[simp] theorem State.expiryPosted_li : (s.expiryPosted).li = s.li := by simp [State.expiryPosted]
@[simp] theorem State.expiryPosted_dc : (s.expiryPosted).dc = s.dc := by simp [State.expiryPosted]
@[simp] theorem State.expiryPosted_sc : (s.expiryPosted).sc = s.sc := by simp [State.expiryPosted]
@[simp] theorem State.expiryPosted_pending : (s.expiryPosted).pending = s.pending := by simp [State.expiryPosted]

@[simp] theorem State.expiryAnnounce_sl (contents : ClaimContents) (turnedOn : Bool) : (State.expiryAnnounce contents turnedOn s).sl = s.sl := by simp only [State.expiryAnnounce]; (repeat' split) <;> simp
@[simp] theorem State.expiryAnnounce_cfg (contents : ClaimContents) (turnedOn : Bool) : (State.expiryAnnounce contents turnedOn s).cfg = s.cfg := by simp only [State.expiryAnnounce]; (repeat' split) <;> simp
@[simp] theorem State.expiryAnnounce_dc (contents : ClaimContents) (turnedOn : Bool) : (State.expiryAnnounce contents turnedOn s).dc = s.dc := by simp only [State.expiryAnnounce]; (repeat' split) <;> simp
@[simp] theorem State.expiryAnnounce_pv (contents : ClaimContents) (turnedOn : Bool) : (State.expiryAnnounce contents turnedOn s).pv = s.pv := by simp only [State.expiryAnnounce]; (repeat' split) <;> simp
@[simp] theorem State.expiryAnnounce_sc (contents : ClaimContents) (turnedOn : Bool) : (State.expiryAnnounce contents turnedOn s).sc = s.sc := by simp only [State.expiryAnnounce]; (repeat' split) <;> simp
@[simp] theorem State.expiryAnnounce_pw (contents : ClaimContents) (turnedOn : Bool) : (State.expiryAnnounce contents turnedOn s).pw = s.pw := by simp only [State.expiryAnnounce]; (repeat' split) <;> simp
@[simp] theorem State.expiryAnnounce_pl (contents : ClaimContents) (turnedOn : Bool) : (State.expiryAnnounce contents turnedOn s).pl = s.pl := by simp only [State.expiryAnnounce]; (repeat' split) <;> simp
@[simp] theorem State.expiryAnnounce_ps (contents : ClaimContents) (turnedOn : Bool) : (State.expiryAnnounce contents turnedOn s).ps = s.ps := by simp only [State.expiryAnnounce]; (repeat' split) <;> simp
@[simp] theorem State.expiryAnnounce_pending (contents : ClaimContents) (turnedOn : Bool) : (State.expiryAnnounce contents turnedOn s).pending = s.pending := by simp only [State.expiryAnnounce]; (repeat' split) <;> simp

@[simp] theorem State.claimPeriod_sl : (s.claimPeriod).sl = s.sl := by simp [State.claimPeriod]
@[simp] theorem State.claimPeriod_cfg : (s.claimPeriod).cfg = s.cfg := by simp [State.claimPeriod]
@[simp] theorem State.claimPeriod_dc : (s.claimPeriod).dc = s.dc := by simp [State.claimPeriod]
@[simp] theorem State.claimPeriod_pending : (s.claimPeriod).pending = s.pending := by simp [State.claimPeriod]

@[simp] theorem State.acceptFrame_sl (check : Byte) : (State.acceptFrame check s).sl = s.sl := by simp [State.acceptFrame]
@[simp] theorem State.acceptFrame_cfg (check : Byte) : (State.acceptFrame check s).cfg = s.cfg := by simp [State.acceptFrame]
@[simp] theorem State.acceptFrame_dc (check : Byte) : (State.acceptFrame check s).dc = s.dc := by simp [State.acceptFrame]
@[simp] theorem State.acceptFrame_pv (check : Byte) : (State.acceptFrame check s).pv = s.pv := by simp [State.acceptFrame]
@[simp] theorem State.acceptFrame_sc (check : Byte) : (State.acceptFrame check s).sc = s.sc := by simp [State.acceptFrame]
@[simp] theorem State.acceptFrame_pw (check : Byte) : (State.acceptFrame check s).pw = s.pw := by simp [State.acceptFrame]
@[simp] theorem State.acceptFrame_pl (check : Byte) : (State.acceptFrame check s).pl = s.pl := by simp [State.acceptFrame]
@[simp] theorem State.acceptFrame_ps (check : Byte) : (State.acceptFrame check s).ps = s.ps := by simp [State.acceptFrame]
@[simp] theorem State.acceptFrame_pending (check : Byte) : (State.acceptFrame check s).pending = s.pending := by simp [State.acceptFrame]

@[simp] theorem State.handSite_sl (f : RxSite) : (State.handSite f s).sl = s.sl := by simp only [State.handSite]; (repeat' split) <;> simp
@[simp] theorem State.handSite_cfg (f : RxSite) : (State.handSite f s).cfg = s.cfg := by simp only [State.handSite]; (repeat' split) <;> simp
@[simp] theorem State.handSite_pv (f : RxSite) : (State.handSite f s).pv = s.pv := by simp only [State.handSite]; (repeat' split) <;> simp
@[simp] theorem State.handSite_pending (f : RxSite) : (State.handSite f s).pending = s.pending := by simp only [State.handSite]; (repeat' split) <;> simp

@[simp] theorem State.linkView_sl (plugDetected linkWorking : Bool) : (State.linkView plugDetected linkWorking s).sl = s.sl := by simp [State.linkView]
@[simp] theorem State.linkView_cfg (plugDetected linkWorking : Bool) : (State.linkView plugDetected linkWorking s).cfg = s.cfg := by simp [State.linkView]
@[simp] theorem State.linkView_li (plugDetected linkWorking : Bool) : (State.linkView plugDetected linkWorking s).li = s.li := by simp [State.linkView]
@[simp] theorem State.linkView_dc (plugDetected linkWorking : Bool) : (State.linkView plugDetected linkWorking s).dc = s.dc := by simp [State.linkView]
@[simp] theorem State.linkView_pv (plugDetected linkWorking : Bool) : (State.linkView plugDetected linkWorking s).pv = s.pv := by simp [State.linkView]
@[simp] theorem State.linkView_sc (plugDetected linkWorking : Bool) : (State.linkView plugDetected linkWorking s).sc = s.sc := by simp [State.linkView]
@[simp] theorem State.linkView_pw (plugDetected linkWorking : Bool) : (State.linkView plugDetected linkWorking s).pw = s.pw := by simp [State.linkView]
@[simp] theorem State.linkView_pl (plugDetected linkWorking : Bool) : (State.linkView plugDetected linkWorking s).pl = s.pl := by simp [State.linkView]
@[simp] theorem State.linkView_pending (plugDetected linkWorking : Bool) : (State.linkView plugDetected linkWorking s).pending = s.pending := by simp [State.linkView]

@[simp] theorem State.powerPlugRemoved_sl : (s.powerPlugRemoved).sl = s.sl := by simp only [State.powerPlugRemoved]; (repeat' split) <;> simp
@[simp] theorem State.powerPlugRemoved_cfg : (s.powerPlugRemoved).cfg = s.cfg := by simp only [State.powerPlugRemoved]; (repeat' split) <;> simp
@[simp] theorem State.powerPlugRemoved_li : (s.powerPlugRemoved).li = s.li := by simp only [State.powerPlugRemoved]; (repeat' split) <;> simp
@[simp] theorem State.powerPlugRemoved_dc : (s.powerPlugRemoved).dc = s.dc := by simp only [State.powerPlugRemoved]; (repeat' split) <;> simp
@[simp] theorem State.powerPlugRemoved_pv : (s.powerPlugRemoved).pv = s.pv := by simp only [State.powerPlugRemoved]; (repeat' split) <;> simp
@[simp] theorem State.powerPlugRemoved_sc : (s.powerPlugRemoved).sc = s.sc := by simp only [State.powerPlugRemoved]; (repeat' split) <;> simp
@[simp] theorem State.powerPlugRemoved_pending : (s.powerPlugRemoved).pending = s.pending := by simp only [State.powerPlugRemoved]; (repeat' split) <;> simp

@[simp] theorem State.enterLost_sl : (s.enterLost).sl = s.sl := by simp [State.enterLost]
@[simp] theorem State.enterLost_cfg : (s.enterLost).cfg = s.cfg := by simp [State.enterLost]
@[simp] theorem State.enterLost_dc : (s.enterLost).dc = s.dc := by simp [State.enterLost]
@[simp] theorem State.enterLost_pv : (s.enterLost).pv = s.pv := by simp [State.enterLost]
@[simp] theorem State.enterLost_sc : (s.enterLost).sc = s.sc := by simp [State.enterLost]
@[simp] theorem State.enterLost_pending : (s.enterLost).pending = s.pending := by simp [State.enterLost]

@[simp] theorem State.resetMissed_sl : (s.resetMissed).sl = s.sl := by simp only [State.resetMissed]; (repeat' split) <;> simp
@[simp] theorem State.resetMissed_cfg : (s.resetMissed).cfg = s.cfg := by simp only [State.resetMissed]; (repeat' split) <;> simp
@[simp] theorem State.resetMissed_dc : (s.resetMissed).dc = s.dc := by simp only [State.resetMissed]; (repeat' split) <;> simp
@[simp] theorem State.resetMissed_pv : (s.resetMissed).pv = s.pv := by simp only [State.resetMissed]; (repeat' split) <;> simp
@[simp] theorem State.resetMissed_sc : (s.resetMissed).sc = s.sc := by simp only [State.resetMissed]; (repeat' split) <;> simp
@[simp] theorem State.resetMissed_pending : (s.resetMissed).pending = s.pending := by simp only [State.resetMissed]; (repeat' split) <;> simp

@[simp] theorem State.requestFailed_sl (c : LinkCommand) : (State.requestFailed c s).sl = s.sl := by simp only [State.requestFailed]; (repeat' split) <;> simp
@[simp] theorem State.requestFailed_cfg (c : LinkCommand) : (State.requestFailed c s).cfg = s.cfg := by simp only [State.requestFailed]; (repeat' split) <;> simp
@[simp] theorem State.requestFailed_dc (c : LinkCommand) : (State.requestFailed c s).dc = s.dc := by simp only [State.requestFailed]; (repeat' split) <;> simp
@[simp] theorem State.requestFailed_pv (c : LinkCommand) : (State.requestFailed c s).pv = s.pv := by simp only [State.requestFailed]; (repeat' split) <;> simp
@[simp] theorem State.requestFailed_sc (c : LinkCommand) : (State.requestFailed c s).sc = s.sc := by simp only [State.requestFailed]; (repeat' split) <;> simp
@[simp] theorem State.requestFailed_pending (c : LinkCommand) : (State.requestFailed c s).pending = s.pending := by simp only [State.requestFailed]; (repeat' split) <;> simp

@[simp] theorem State.identFailed_sl : (s.identFailed).sl = s.sl := by simp only [State.identFailed]; (repeat' split) <;> simp
@[simp] theorem State.identFailed_cfg : (s.identFailed).cfg = s.cfg := by simp only [State.identFailed]; (repeat' split) <;> simp
@[simp] theorem State.identFailed_dc : (s.identFailed).dc = s.dc := by simp only [State.identFailed]; (repeat' split) <;> simp
@[simp] theorem State.identFailed_pv : (s.identFailed).pv = s.pv := by simp only [State.identFailed]; (repeat' split) <;> simp
@[simp] theorem State.identFailed_sc : (s.identFailed).sc = s.sc := by simp only [State.identFailed]; (repeat' split) <;> simp
@[simp] theorem State.identFailed_pending : (s.identFailed).pending = s.pending := by simp only [State.identFailed]; (repeat' split) <;> simp

@[simp] theorem State.identValid_sl (v : VanIdentity) : (State.identValid v s).sl = s.sl := by simp [State.identValid]
@[simp] theorem State.identValid_cfg (v : VanIdentity) : (State.identValid v s).cfg = s.cfg := by simp [State.identValid]
@[simp] theorem State.identValid_dc (v : VanIdentity) : (State.identValid v s).dc = s.dc := by simp [State.identValid]
@[simp] theorem State.identValid_pv (v : VanIdentity) : (State.identValid v s).pv = s.pv := by simp [State.identValid]
@[simp] theorem State.identValid_sc (v : VanIdentity) : (State.identValid v s).sc = s.sc := by simp [State.identValid]
@[simp] theorem State.identValid_pending (v : VanIdentity) : (State.identValid v s).pending = s.pending := by simp [State.identValid]

@[simp] theorem State.recovered_sl (v : VanIdentity) : (State.recovered v s).sl = s.sl := by simp only [State.recovered]; (repeat' split) <;> simp
@[simp] theorem State.recovered_cfg (v : VanIdentity) : (State.recovered v s).cfg = s.cfg := by simp only [State.recovered]; (repeat' split) <;> simp
@[simp] theorem State.recovered_dc (v : VanIdentity) : (State.recovered v s).dc = s.dc := by simp only [State.recovered]; (repeat' split) <;> simp
@[simp] theorem State.recovered_pv (v : VanIdentity) : (State.recovered v s).pv = s.pv := by simp only [State.recovered]; (repeat' split) <;> simp
@[simp] theorem State.recovered_sc (v : VanIdentity) : (State.recovered v s).sc = s.sc := by simp only [State.recovered]; (repeat' split) <;> simp
@[simp] theorem State.recovered_pending (v : VanIdentity) : (State.recovered v s).pending = s.pending := by simp only [State.recovered]; (repeat' split) <;> simp

@[simp] theorem State.statusValid_sl (st : LinkStatus) : (State.statusValid st s).sl = s.sl := by simp [State.statusValid]
@[simp] theorem State.statusValid_cfg (st : LinkStatus) : (State.statusValid st s).cfg = s.cfg := by simp [State.statusValid]
@[simp] theorem State.statusValid_dc (st : LinkStatus) : (State.statusValid st s).dc = s.dc := by simp [State.statusValid]
@[simp] theorem State.statusValid_pv (st : LinkStatus) : (State.statusValid st s).pv = s.pv := by simp [State.statusValid]
@[simp] theorem State.statusValid_sc (st : LinkStatus) : (State.statusValid st s).sc = s.sc := by simp [State.statusValid]
@[simp] theorem State.statusValid_pending (st : LinkStatus) : (State.statusValid st s).pending = s.pending := by simp [State.statusValid]

@[simp] theorem State.endDrawPhase_sl (power : Nat) : (State.endDrawPhase power s).sl = s.sl := by simp only [State.endDrawPhase]; (repeat' split) <;> simp
@[simp] theorem State.endDrawPhase_cfg (power : Nat) : (State.endDrawPhase power s).cfg = s.cfg := by simp only [State.endDrawPhase]; (repeat' split) <;> simp
@[simp] theorem State.endDrawPhase_li (power : Nat) : (State.endDrawPhase power s).li = s.li := by simp only [State.endDrawPhase]; (repeat' split) <;> simp
@[simp] theorem State.endDrawPhase_dc (power : Nat) : (State.endDrawPhase power s).dc = s.dc := by simp only [State.endDrawPhase]; (repeat' split) <;> simp
@[simp] theorem State.endDrawPhase_pv (power : Nat) : (State.endDrawPhase power s).pv = s.pv := by simp only [State.endDrawPhase]; (repeat' split) <;> simp
@[simp] theorem State.endDrawPhase_sc (power : Nat) : (State.endDrawPhase power s).sc = s.sc := by simp only [State.endDrawPhase]; (repeat' split) <;> simp
@[simp] theorem State.endDrawPhase_pw (power : Nat) : (State.endDrawPhase power s).pw = s.pw := by simp only [State.endDrawPhase]; (repeat' split) <;> simp
@[simp] theorem State.endDrawPhase_pl (power : Nat) : (State.endDrawPhase power s).pl = s.pl := by simp only [State.endDrawPhase]; (repeat' split) <;> simp
@[simp] theorem State.endDrawPhase_pending (power : Nat) : (State.endDrawPhase power s).pending = s.pending := by simp only [State.endDrawPhase]; (repeat' split) <;> simp

end Sys2Proof.Machine
end

