-- ==== Sys2Proof/Laws/Clock.lean ====
section
/-! SUPPORT. The Depot Clock after each offered time (R28 to R31), and the ranges every operation of it keeps. -/

namespace Sys2Proof.Machine

variable (s : State)

@[simp] theorem State.moveClock_dc (next : DepotClock) : (State.moveClock next s).dc = next := by
  unfold State.moveClock; dsimp only; (repeat' split) <;> simp

@[simp] theorem State.adoptTime_dc (t : Nat) (source : ClockSource) (age : Nat) :
    (State.adoptTime t source age s).dc = ⟨t, 0, source, age⟩ := by
  simp [State.adoptTime]

/-- The clock after an anchor (R28, R29, R31). -/
def DepotClock.afterAnchor (t : Nat) (dc : DepotClock) : DepotClock :=
  if timeOffered t then
    if dc.source = .unset ∨ 2 ≤ clockDistance t dc.time then ⟨t, 0, .anchored, 0⟩ else { dc with source := .anchored, anchorAge := 0 }
  else dc

/-- The clock after a peer time (R28, R30, R31). -/
def DepotClock.afterPeerTime (t : Nat) (dc : DepotClock) : DepotClock :=
  if timeOffered t then
    match dc.source with
    | .unset => ⟨t, 0, .peer, dc.anchorAge⟩
    | .peer => if 1 ≤ aheadBy t dc.time ∧ aheadBy t dc.time ≤ 43200 then ⟨t, 0, .peer, dc.anchorAge⟩ else dc
    | .anchored => dc
  else dc

@[simp] theorem State.offerAnchor_dc (t : Nat) : (State.offerAnchor t s).dc = s.dc.afterAnchor t := by
  unfold State.offerAnchor DepotClock.afterAnchor; (repeat' split) <;> simp

@[simp] theorem State.offerPeerTime_dc (t : Nat) : (State.offerPeerTime t s).dc = s.dc.afterPeerTime t := by
  unfold State.offerPeerTime DepotClock.afterPeerTime; (repeat' split) <;> simp_all

theorem DepotClock.afterAnchor_timeOk {dc : DepotClock} (t : Nat) (h : dc.timeOk) : (dc.afterAnchor t).timeOk := by
  obtain ⟨h1, h2, h3⟩ := h
  unfold DepotClock.afterAnchor timeOffered secondsPerDay
  (repeat' split) <;> refine ⟨?_, ?_, ?_⟩ <;> simp_all

theorem DepotClock.afterPeerTime_timeOk {dc : DepotClock} (t : Nat) (h : dc.timeOk) : (dc.afterPeerTime t).timeOk := by
  obtain ⟨h1, h2, h3⟩ := h
  unfold DepotClock.afterPeerTime timeOffered secondsPerDay
  (repeat' split) <;> refine ⟨?_, ?_, ?_⟩ <;> simp_all

/-- Once set, the clock's source does not return to UNSET (R25). -/
theorem DepotClock.afterAnchor_isSet {dc : DepotClock} (t : Nat) (h : dc.isSet = true) : (dc.afterAnchor t).isSet = true := by
  unfold DepotClock.afterAnchor; (repeat' split) <;> simp_all [DepotClock.isSet]

theorem DepotClock.afterPeerTime_isSet {dc : DepotClock} (t : Nat) (h : dc.isSet = true) : (dc.afterPeerTime t).isSet = true := by
  unfold DepotClock.afterPeerTime; (repeat' split) <;> simp_all [DepotClock.isSet]

/-- The distance is symmetric about the day: at most half of it (R29). -/
theorem clockDistance_le (offered own : Nat) : clockDistance offered own ≤ 43200 := by
  unfold clockDistance secondsPerDay
  split <;> omega

end Sys2Proof.Machine
end

