-- ==== Sys2Proof/Laws/WalkerTells.lean ====
section
/-! SUPPORT. What the Programme Walker does to the other blocks: to Power Stage Control it only tells its view, and to the Plug Link it only
places requests (R88, R103, R125, R135). -/

namespace Sys2Proof.Machine

variable (s : State)

/-! ## Power Stage Control -/

/-- What Power Stage Control may become by being told the walker's view, any number of times (R88, R135). -/
inductive PowerStage.Told (active : Bool) : PowerStage → PowerStage → Prop
  | refl (ps : PowerStage) : Told active ps ps
  | tell {a b : PowerStage} (h : Told active a b) (pw : Walker) : Told active a ((b.takeView pw).judge active)

theorem PowerStage.Told.trans {active : Bool} {a b c : PowerStage} (h : Told active a b) (k : Told active b c) : Told active a c := by
  induction k with
  | refl => exact h
  | tell _ pw ih => exact .tell ih pw

theorem State.active_of_sl {a b : State} (h : a.sl = b.sl) : a.active = b.active := by unfold State.active; rw [h]

variable {active : Bool}

theorem State.tellPower_told (h : s.active = active) : PowerStage.Told active s.ps s.tellPower.ps := h ▸ .tell (.refl _) s.pw

theorem State.checkAt_told (p : WalkerPos) (st : ProgStep) (ha : s.active = active) : PowerStage.Told active s.ps (State.checkAt p st s).ps := by
  unfold State.checkAt
  (repeat' split) <;> (repeat (first | refine .trans ?_ (State.tellPower_told _ ?_))) <;> (try simp) <;> first | exact .refl _ | exact (State.active_of_sl (by simp)).trans ha

theorem State.stateCheck_told (ha : s.active = active) : PowerStage.Told active s.ps (s.stateCheck).ps := by
  simp only [State.stateCheck]
  (repeat' split) <;> (repeat (first | refine .trans ?_ (State.checkAt_told _ _ _ ?_) | refine .trans ?_ (State.tellPower_told _ ?_))) <;> first | exact .refl _ | exact (State.active_of_sl (by simp)).trans ha

theorem State.checkWalking_told (ha : s.active = active) : PowerStage.Told active s.ps (s.checkWalking).ps := by
  simp only [State.checkWalking]
  (repeat' split) <;> (repeat (first | refine .trans ?_ (State.stateCheck_told _ ?_) | refine .trans ?_ (State.tellPower_told _ ?_))) <;> first | exact .refl _ | exact (State.active_of_sl (by simp)).trans ha

theorem State.setHolds_told (h : HoldSet) (ha : s.active = active) : PowerStage.Told active s.ps (State.setHolds h s).ps := by
  simp only [State.setHolds]
  refine .trans ?_ (State.checkWalking_told _ ((State.active_of_sl (by simp)).trans ha))
  simp [PowerStage.Told.refl]

theorem State.enterStep_told (kind : StepKind) (ha : s.active = active) : PowerStage.Told active s.ps (State.enterStep kind s).ps := by
  simp only [State.enterStep]
  refine .trans ?_ (State.stateCheck_told _ ((State.active_of_sl (by simp)).trans ha))
  simp [PowerStage.Told.refl]

theorem State.buildDone_told (ha : s.active = active) : PowerStage.Told active s.ps (s.buildDone).ps := by
  simp only [State.buildDone]
  simp only [State.queueReport_ps]
  refine .trans ?_ (State.tellPower_told _ ((State.active_of_sl (by simp)).trans ha))
  simp [PowerStage.Told.refl]

theorem State.buildWalk_told (first : ProgStep) (rest : List ProgStep) (ha : s.active = active) : PowerStage.Told active s.ps (State.buildWalk first rest s).ps := by
  simp only [State.buildWalk]
  refine .trans ?_ (State.enterStep_told _ _ ((State.active_of_sl (by simp)).trans ha))
  simp [PowerStage.Told.refl]

theorem State.build_told (plan : Plan) (van : AttachedVan) (st : VanStatus) (ha : s.active = active) : PowerStage.Told active s.ps (State.build plan van st s).ps := by
  simp only [State.build]
  (repeat' split) <;> (repeat (first | refine .trans ?_ (State.buildDone_told _ ?_) | refine .trans ?_ (State.buildWalk_told _ _ _ ?_))) <;> (try simp) <;> first | exact .refl _ | exact (State.active_of_sl (by simp)).trans ha

theorem State.buildOrAwait_told (ha : s.active = active) : PowerStage.Told active s.ps (s.buildOrAwait).ps := by
  simp only [State.buildOrAwait]
  (repeat' split) <;> (repeat (first | refine .trans ?_ (State.build_told _ _ _ _ ?_) | refine .trans ?_ (State.tellPower_told _ ?_))) <;> (try simp) <;> first | exact .refl _ | exact (State.active_of_sl (by simp)).trans ha

theorem State.finish_told (p : WalkerPos) (ha : s.active = active) : PowerStage.Told active s.ps (State.finish p s).ps := by
  simp only [State.finish]
  simp only [State.queueReport_ps]
  refine .trans ?_ (State.tellPower_told _ ((State.active_of_sl (by simp)).trans ha))
  simp [PowerStage.Told.refl]

theorem State.changeStep_told (p : WalkerPos) (nextStep : ProgStep) (ha : s.active = active) : PowerStage.Told active s.ps (State.changeStep p nextStep s).ps := by
  simp only [State.changeStep]
  refine .trans ?_ (State.enterStep_told _ _ ((State.active_of_sl (by simp)).trans ha))
  simp [PowerStage.Told.refl]

theorem State.afterStep_told (p : WalkerPos) (st : ProgStep) (ha : s.active = active) : PowerStage.Told active s.ps (State.afterStep p st s).ps := by
  simp only [State.afterStep]
  (repeat' split) <;> (repeat (first | refine .trans ?_ (State.buildOrAwait_told _ ?_) | refine .trans ?_ (State.finish_told _ _ ?_) | refine .trans ?_ (State.changeStep_told _ _ _ ?_))) <;> (try simp) <;> first | exact .refl _ | exact (State.active_of_sl (by simp)).trans ha

theorem State.endStep_told (refusal : Bool) (ha : s.active = active) : PowerStage.Told active s.ps (State.endStep refusal s).ps := by
  simp only [State.endStep]
  (repeat' split) <;> (repeat (first | refine .trans ?_ (State.afterStep_told _ _ _ ?_))) <;> (try simp) <;> first | exact .refl _ | exact (State.active_of_sl (by simp)).trans ha

theorem State.minuteRoll_told (clockSet : Bool) (ha : s.active = active) : PowerStage.Told active s.ps (State.minuteRoll clockSet s).ps := by
  simp only [State.minuteRoll]
  (repeat' split) <;> (repeat (first | refine .trans ?_ (State.buildOrAwait_told _ ?_) | refine .trans ?_ (State.stateCheck_told _ ?_))) <;> first | exact .refl _ | exact (State.active_of_sl (by simp)).trans ha

theorem State.gateReport_told (closed : Bool) (ha : s.active = active) : PowerStage.Told active s.ps (State.gateReport closed s).ps := by
  simp only [State.gateReport]
  refine .trans ?_ (State.setHolds_told _ _ ((State.active_of_sl (by simp)).trans ha))
  simp [PowerStage.Told.refl]

theorem State.freshArrival_told (tag : VanTag) (capacity : Nat) (ha : s.active = active) : PowerStage.Told active s.ps (State.freshArrival tag capacity s).ps := by
  simp only [State.freshArrival]
  simp only [State.queueReport_ps, State.placeStatus_ps]
  refine .trans ?_ (State.tellPower_told _ ((State.active_of_sl (by simp)).trans ha))
  simp [PowerStage.Told.refl]

theorem State.vanIdentified_told (tag : VanTag) (capacity : Nat) (ha : s.active = active) : PowerStage.Told active s.ps (State.vanIdentified tag capacity s).ps := by
  simp only [State.vanIdentified]
  (repeat' split) <;> (repeat (first | refine .trans ?_ (State.freshArrival_told _ _ _ ?_))) <;> first | exact .refl _ | exact (State.active_of_sl (by simp)).trans ha

theorem State.differentVan_told (tag : VanTag) (capacity : Nat) (ha : s.active = active) : PowerStage.Told active s.ps (State.differentVan tag capacity s).ps := by
  unfold State.differentVan
  split
  · exact State.freshArrival_told _ _ _ ha
  · refine .trans ?_ (State.freshArrival_told _ _ _ ((State.active_of_sl (by simp)).trans ha))
    refine .trans ?_ (State.tellPower_told _ ((State.active_of_sl (by simp)).trans ha))
    simp [PowerStage.Told.refl]

theorem State.sameVan_told (ha : s.active = active) : PowerStage.Told active s.ps (s.sameVan).ps := by
  simp only [State.sameVan]
  refine .trans ?_ (State.setHolds_told _ _ ((State.active_of_sl (by simp)).trans ha))
  simp [PowerStage.Told.refl]

theorem State.linkLostReport_told (ha : s.active = active) : PowerStage.Told active s.ps (s.linkLostReport).ps := by
  simp only [State.linkLostReport]
  (repeat' split) <;> (repeat (first | refine .trans ?_ (State.setHolds_told _ _ ?_))) <;> first | exact .refl _ | exact (State.active_of_sl (by simp)).trans ha

theorem State.walkerPlugRemoved_told (ha : s.active = active) : PowerStage.Told active s.ps (s.walkerPlugRemoved).ps := by
  simp only [State.walkerPlugRemoved]
  split <;> first
    | exact .refl _
    | (try simp only [State.queueReport_ps]
       refine .trans ?_ (State.tellPower_told _ ((State.active_of_sl (by simp)).trans ha))
       simp [PowerStage.Told.refl])

theorem State.takeStatus_told (soc : Nat) (temperature : Int) (ha : s.active = active) : PowerStage.Told active s.ps (State.takeStatus soc temperature s).ps := by
  simp only [State.takeStatus]
  (repeat' split) <;> (repeat (first | refine .trans ?_ (State.buildOrAwait_told _ ?_) | refine .trans ?_ (State.endStep_told _ _ ?_))) <;> (try simp) <;> first | exact .refl _ | exact (State.active_of_sl (by simp)).trans ha

theorem State.heaterRefused_told (h : Heaters) (ha : s.active = active) : PowerStage.Told active s.ps (State.heaterRefused h s).ps := by
  simp only [State.heaterRefused]
  (repeat' split) <;> (repeat (first | refine .trans ?_ (State.endStep_told _ _ ?_))) <;> (try simp) <;> first | exact .refl _ | exact (State.active_of_sl (by simp)).trans ha

theorem State.countPulse_told (ha : s.active = active) : PowerStage.Told active s.ps (s.countPulse).ps := by
  simp only [State.countPulse]
  (repeat' split) <;> (repeat (first | refine .trans ?_ (State.endStep_told _ _ ?_))) <;> (try simp) <;> first | exact .refl _ | exact (State.active_of_sl (by simp)).trans ha

theorem State.takePlan_told (plan : Plan) (ha : s.active = active) : PowerStage.Told active s.ps (State.takePlan plan s).ps := by
  simp only [State.takePlan]
  (repeat' split) <;> (repeat (first | refine .trans ?_ (State.buildOrAwait_told _ ?_))) <;> (try simp) <;> first | exact .refl _ | exact (State.active_of_sl (by simp)).trans ha

theorem State.judgePlan_told (plan : Plan) (ha : s.active = active) : PowerStage.Told active s.ps (State.judgePlan plan s).ps := by
  simp only [State.judgePlan]
  (repeat' split) <;> (repeat (first | refine .trans ?_ (State.takePlan_told _ _ ?_))) <;> (try simp) <;> first | exact .refl _ | exact (State.active_of_sl (by simp)).trans ha

theorem State.takeCancel_told (tag : VanTag) (serial : Nat) (ha : s.active = active) : PowerStage.Told active s.ps (State.takeCancel tag serial s).ps := by
  simp only [State.takeCancel]
  split <;> first
    | exact .refl _
    | (try simp only [State.queueReport_ps]
       refine .trans ?_ (State.tellPower_told _ ((State.active_of_sl (by simp)).trans ha))
       simp [PowerStage.Told.refl])

theorem State.adoptDefault_told (ha : s.active = active) : PowerStage.Told active s.ps (s.adoptDefault).ps := by
  simp only [State.adoptDefault]
  refine .trans ?_ (State.buildOrAwait_told _ ((State.active_of_sl (by simp)).trans ha))
  simp [PowerStage.Told.refl]

theorem State.moveClock_told (next : DepotClock) (ha : s.active = active) : PowerStage.Told active s.ps (State.moveClock next s).ps := by
  simp only [State.moveClock]
  (repeat' split) <;> (repeat (first | refine .trans ?_ (State.minuteRoll_told _ _ ?_))) <;> (try simp) <;> first | exact .refl _ | exact (State.active_of_sl (by simp)).trans ha

theorem State.adoptTime_told (t : Nat) (source : ClockSource) (age : Nat) (ha : s.active = active) : PowerStage.Told active s.ps (State.adoptTime t source age s).ps := by
  simp only [State.adoptTime]
  refine .trans ?_ (State.moveClock_told _ _ ((State.active_of_sl (by simp)).trans ha))
  simp [PowerStage.Told.refl]

theorem State.offerAnchor_told (t : Nat) (ha : s.active = active) : PowerStage.Told active s.ps (State.offerAnchor t s).ps := by
  simp only [State.offerAnchor]
  (repeat' split) <;> (repeat (first | refine .trans ?_ (State.adoptTime_told _ _ _ _ ?_))) <;> (try simp) <;> first | exact .refl _ | exact (State.active_of_sl (by simp)).trans ha

theorem State.offerPeerTime_told (t : Nat) (ha : s.active = active) : PowerStage.Told active s.ps (State.offerPeerTime t s).ps := by
  simp only [State.offerPeerTime]
  (repeat' split) <;> (repeat (first | refine .trans ?_ (State.adoptTime_told _ _ _ _ ?_))) <;> first | exact .refl _ | exact (State.active_of_sl (by simp)).trans ha

/-! ## Plug Link -/

/-- What the Plug Link may become by requests being placed (R125). -/
inductive PlugLink.Asked : PlugLink → PlugLink → Prop
  | refl (pl : PlugLink) : Asked pl pl
  | status {a b : PlugLink} (h : Asked a b) : Asked a b.placeStatus
  | heater {a b : PlugLink} (h : Asked a b) (x : Heaters) : Asked a (b.placeHeater x)

theorem PlugLink.Asked.trans {a b c : PlugLink} (h : Asked a b) (k : Asked b c) : Asked a c := by
  induction k with
  | refl => exact h
  | status _ ih => exact .status ih
  | heater _ x ih => exact .heater ih x

theorem State.placeStatus_asked : PlugLink.Asked s.pl s.placeStatus.pl := .status (.refl _)
theorem State.placeHeater_asked (h : Heaters) : PlugLink.Asked s.pl (State.placeHeater h s).pl := .heater (.refl _) h

theorem PlugLink.requestHeat_asked (p : WalkerPos) (st : ProgStep) (pl : PlugLink) : pl.Asked (requestHeat p st pl) := by
  unfold requestHeat
  (repeat' split) <;> first | exact .refl _ | exact .heater (.refl _) _

theorem State.checkAt_asked (p : WalkerPos) (st : ProgStep) : s.pl.Asked (State.checkAt p st s).pl := by
  unfold State.checkAt
  split <;> simp [PlugLink.Asked.refl, PlugLink.requestHeat_asked]

theorem State.heaterOff_asked : s.pl.Asked s.heaterOff.pl := by
  unfold State.heaterOff
  (repeat' split) <;> first | exact .refl _ | exact .heater (.refl _) _

theorem State.stateCheck_asked : s.pl.Asked (s.stateCheck).pl := by
  simp only [State.stateCheck]
  (repeat' split) <;> (repeat (first | refine .trans ?_ (State.checkAt_asked _ _ _))) <;> (try simp) <;> exact .refl _

theorem State.checkWalking_asked : s.pl.Asked (s.checkWalking).pl := by
  simp only [State.checkWalking]
  (repeat' split) <;> (repeat (first | refine .trans ?_ (State.stateCheck_asked _))) <;> (try simp) <;> exact .refl _

theorem State.setHolds_asked (h : HoldSet) : s.pl.Asked (State.setHolds h s).pl := by
  simp only [State.setHolds]
  refine .trans ?_ (State.checkWalking_asked _)
  simp [PlugLink.Asked.refl]

theorem State.enterStep_asked (kind : StepKind) : s.pl.Asked (State.enterStep kind s).pl := by
  simp only [State.enterStep]
  refine .trans ?_ (State.stateCheck_asked _)
  refine .trans ?_ (State.placeStatus_asked _)
  simp [PlugLink.Asked.refl]

theorem State.buildWalk_asked (first : ProgStep) (rest : List ProgStep) : s.pl.Asked (State.buildWalk first rest s).pl := by
  simp only [State.buildWalk]
  refine .trans ?_ (State.enterStep_asked _ _)
  simp [PlugLink.Asked.refl]

theorem State.build_asked (plan : Plan) (van : AttachedVan) (st : VanStatus) : s.pl.Asked (State.build plan van st s).pl := by
  unfold State.build
  split
  · simpa using PlugLink.Asked.status s.heaterOff_asked
  · exact .trans s.heaterOff_asked (State.buildWalk_asked _ _ _)

theorem State.buildOrAwait_asked : s.pl.Asked (s.buildOrAwait).pl := by
  unfold State.buildOrAwait
  split
  · exact State.build_asked _ _ _ _
  · simpa using s.heaterOff_asked

theorem State.changeStep_asked (p : WalkerPos) (nextStep : ProgStep) : s.pl.Asked (State.changeStep p nextStep s).pl := by
  simp only [State.changeStep]
  refine .trans ?_ (State.enterStep_asked _ _)
  simp [PlugLink.Asked.refl]

theorem State.afterStep_asked (p : WalkerPos) (st : ProgStep) : s.pl.Asked (State.afterStep p st s).pl := by
  simp only [State.afterStep]
  (repeat' split) <;> (repeat (first | refine .trans ?_ (State.buildOrAwait_asked _) | refine .trans ?_ (State.changeStep_asked _ _ _))) <;> (try simp) <;> exact .refl _

theorem State.endStep_asked (refusal : Bool) : s.pl.Asked (State.endStep refusal s).pl := by
  simp only [State.endStep]
  (repeat' split) <;> (repeat (first | refine .trans ?_ (State.afterStep_asked _ _ _))) <;> (try simp) <;> first | exact .refl _ | exact s.heaterOff_asked

theorem State.minuteRoll_asked (clockSet : Bool) : s.pl.Asked (State.minuteRoll clockSet s).pl := by
  simp only [State.minuteRoll]
  (repeat' split) <;> (repeat (first | refine .trans ?_ (State.buildOrAwait_asked _) | refine .trans ?_ (State.stateCheck_asked _))) <;> exact .refl _

theorem State.gateReport_asked (closed : Bool) : s.pl.Asked (State.gateReport closed s).pl := by
  simp only [State.gateReport]
  refine .trans ?_ (State.setHolds_asked _ _)
  simp [PlugLink.Asked.refl]

theorem State.freshArrival_asked (tag : VanTag) (capacity : Nat) : s.pl.Asked (State.freshArrival tag capacity s).pl := by
  simp only [State.freshArrival]
  simp only [State.queueReport_pl]
  refine .trans ?_ (State.placeStatus_asked _)
  simp [PlugLink.Asked.refl]

theorem State.vanIdentified_asked (tag : VanTag) (capacity : Nat) : s.pl.Asked (State.vanIdentified tag capacity s).pl := by
  simp only [State.vanIdentified]
  (repeat' split) <;> (repeat (first | refine .trans ?_ (State.freshArrival_asked _ _ _))) <;> exact .refl _

theorem State.differentVan_asked (tag : VanTag) (capacity : Nat) : s.pl.Asked (State.differentVan tag capacity s).pl := by
  unfold State.differentVan
  split
  · exact State.freshArrival_asked _ _ _
  · refine .trans ?_ (State.freshArrival_asked _ _ _)
    simp [PlugLink.Asked.refl]

theorem State.sameVan_asked : s.pl.Asked (s.sameVan).pl := by
  simp only [State.sameVan]
  refine .trans ?_ (State.setHolds_asked _ _)
  refine .trans ?_ (State.placeStatus_asked _)
  simp [PlugLink.Asked.refl]

theorem State.linkLostReport_asked : s.pl.Asked (s.linkLostReport).pl := by
  simp only [State.linkLostReport]
  (repeat' split) <;> (repeat (first | refine .trans ?_ (State.setHolds_asked _ _))) <;> exact .refl _

theorem State.takeStatus_asked (soc : Nat) (temperature : Int) : s.pl.Asked (State.takeStatus soc temperature s).pl := by
  simp only [State.takeStatus]
  (repeat' split) <;> (repeat (first | refine .trans ?_ (State.buildOrAwait_asked _) | refine .trans ?_ (State.endStep_asked _ _))) <;> (try simp) <;> exact .refl _

theorem State.heaterRefused_asked (h : Heaters) : s.pl.Asked (State.heaterRefused h s).pl := by
  simp only [State.heaterRefused]
  (repeat' split) <;> (repeat (first | refine .trans ?_ (State.endStep_asked _ _))) <;> (try simp) <;> exact .refl _

theorem State.countPulse_asked : s.pl.Asked (s.countPulse).pl := by
  simp only [State.countPulse]
  (repeat' split) <;> (repeat (first | refine .trans ?_ (State.endStep_asked _ _))) <;> (try simp) <;> exact .refl _

theorem State.takePlan_asked (plan : Plan) : s.pl.Asked (State.takePlan plan s).pl := by
  simp only [State.takePlan]
  (repeat' split) <;> (repeat (first | refine .trans ?_ (State.buildOrAwait_asked _))) <;> (try simp) <;> exact .refl _

theorem State.judgePlan_asked (plan : Plan) : s.pl.Asked (State.judgePlan plan s).pl := by
  simp only [State.judgePlan]
  (repeat' split) <;> (repeat (first | refine .trans ?_ (State.takePlan_asked _ _))) <;> (try simp) <;> exact .refl _

theorem State.takeCancel_asked (tag : VanTag) (serial : Nat) : s.pl.Asked (State.takeCancel tag serial s).pl := by
  unfold State.takeCancel
  split
  · simpa using s.heaterOff_asked
  · exact .refl _

theorem State.adoptDefault_asked : s.pl.Asked (s.adoptDefault).pl := by
  simp only [State.adoptDefault]
  refine .trans ?_ (State.buildOrAwait_asked _)
  simp [PlugLink.Asked.refl]

theorem State.moveClock_asked (next : DepotClock) : s.pl.Asked (State.moveClock next s).pl := by
  simp only [State.moveClock]
  (repeat' split) <;> (repeat (first | refine .trans ?_ (State.minuteRoll_asked _ _))) <;> (try simp) <;> exact .refl _

theorem State.adoptTime_asked (t : Nat) (source : ClockSource) (age : Nat) : s.pl.Asked (State.adoptTime t source age s).pl := by
  simp only [State.adoptTime]
  refine .trans ?_ (State.moveClock_asked _ _)
  simp [PlugLink.Asked.refl]

theorem State.offerAnchor_asked (t : Nat) : s.pl.Asked (State.offerAnchor t s).pl := by
  simp only [State.offerAnchor]
  (repeat' split) <;> (repeat (first | refine .trans ?_ (State.adoptTime_asked _ _ _ _))) <;> (try simp) <;> exact .refl _

theorem State.offerPeerTime_asked (t : Nat) : s.pl.Asked (State.offerPeerTime t s).pl := by
  simp only [State.offerPeerTime]
  (repeat' split) <;> (repeat (first | refine .trans ?_ (State.adoptTime_asked _ _ _ _))) <;> exact .refl _

end Sys2Proof.Machine
end

