-- ==== Sys2Proof/Laws/Contactor.lean ====
section
/-! SUPPORT. The contactor and the setpoint: what each operation of Power Stage Control keeps (R130 to R139). -/

namespace Sys2Proof.Machine

variable {c : Settings} {ps : PowerStage} {active : Bool}

/-- The clauses of `PowerStage.contactorOk` that do not ask whether close is wanted. -/
def PowerStage.contactorCore (ps : PowerStage) : Prop :=
  ps.drive = ps.contactor.driven
    ∧ ps.senseTimer.isRunning = ps.contactor.sensing
    ∧ ps.drawWait.isRunning = decide (ps.contactor = .opening .draw)
    ∧ ps.closeLatch = decide (ps.contactor = .closeFault)
    ∧ ps.weldLatch = decide (ps.contactor = .weldFault)
    ∧ (ps.contactor = .closing → ps.senseClosed = false)
    ∧ (ps.contactor = .isClosed → ps.senseClosed = true)
    ∧ (ps.contactor = .opening .sense → ps.senseClosed = true)
    ∧ ps.closeMisses ≤ 1
    ∧ ps.shedHold ≤ 3

theorem PowerStage.contactorOk_iff :
    ps.contactorOk active ↔ ps.contactorCore ∧ (ps.contactor.engaged = true → ps.wanted active = true)
      ∧ (ps.contactor = .isOpen → ps.wanted active = true → ps.retryWait.isRunning = true) := by
  unfold PowerStage.contactorOk PowerStage.contactorCore; tauto

@[simp] theorem Timer.isRunning_stopped : Timer.stopped.isRunning = false := rfl
@[simp] theorem Timer.isRunning_running (n : Nat) : (Timer.running n).isRunning = true := rfl

/-- A contactor with no latch set that moves to CLOSING, or at once to CLOSED, is in order and stays wanted (R136). -/
theorem PowerStage.enterClosing_ok (hd : ps.drawWait.isRunning = false) (hc : ps.closeLatch = false) (hw : ps.weldLatch = false)
    (hm : ps.closeMisses ≤ 1) (hs : ps.shedHold ≤ 3) (hwant : ps.wanted active = true) : ps.enterClosing.contactorOk active := by
  rw [PowerStage.contactorOk_iff]
  unfold PowerStage.enterClosing
  split <;> simp_all [PowerStage.contactorCore, Contactor.driven, Contactor.sensing, PowerStage.wanted, PowerStage.viewWants]

theorem PowerStage.enterOpen_ok (hd : ps.drawWait.isRunning = false) (hc : ps.closeLatch = false) (hw : ps.weldLatch = false)
    (hm : ps.closeMisses ≤ 1) (hs : ps.shedHold ≤ 3) (hdr : ps.drive = false) : (ps.enterOpen active).contactorOk active := by
  unfold PowerStage.enterOpen
  dsimp only
  split
  · rename_i h
    exact PowerStage.enterClosing_ok hd hc hw hm hs h.1
  · rename_i h
    rw [PowerStage.contactorOk_iff]
    simp_all [PowerStage.contactorCore, Contactor.driven, Contactor.sensing, Contactor.engaged]

theorem PowerStage.beginSensePhase_ok (hc : ps.closeLatch = false) (hw : ps.weldLatch = false)
    (hm : ps.closeMisses ≤ 1) (hs : ps.shedHold ≤ 3) : (ps.beginSensePhase active).contactorOk active := by
  unfold PowerStage.beginSensePhase
  dsimp only
  split
  · rename_i h
    rw [PowerStage.contactorOk_iff]
    simp_all [PowerStage.contactorCore, Contactor.driven, Contactor.sensing, Contactor.engaged]
  · exact PowerStage.enterOpen_ok rfl hc hw hm hs rfl

theorem PowerStage.beginDrawPhase_ok (hd : ps.drive = true) (ht : ps.senseTimer.isRunning = false) (hc : ps.closeLatch = false)
    (hw : ps.weldLatch = false) (hm : ps.closeMisses ≤ 1) (hs : ps.shedHold ≤ 3) :
    (ps.beginDrawPhase active).contactorOk active := by
  unfold PowerStage.beginDrawPhase
  dsimp only
  split
  · exact PowerStage.beginSensePhase_ok hc hw hm hs
  · rw [PowerStage.contactorOk_iff]
    simp_all [PowerStage.contactorCore, Contactor.driven, Contactor.sensing, Contactor.engaged]

/-- A judgement brings a contactor in order into CLOSING or CLOSED only while wanted, and out of OPEN when wanted (R135 to R138). -/
theorem PowerStage.judge_ok (h : ps.contactorCore) : (ps.judge active).contactorOk active := by
  obtain ⟨h1, h2, h3, h4, h5, h6, h7, h8, h9, h10⟩ := h
  unfold PowerStage.judge
  cases hcon : ps.contactor with
  | isOpen =>
    simp only [hcon, Contactor.driven, Contactor.sensing, reduceCtorEq, decide_false] at h1 h2 h3 h4 h5
    dsimp only
    split
    · rename_i h; exact PowerStage.enterClosing_ok h3 h4 h5 h9 h10 h.1
    · rw [PowerStage.contactorOk_iff]
      refine ⟨by simp_all [PowerStage.contactorCore, Contactor.driven, Contactor.sensing], by simp [hcon, Contactor.engaged], ?_⟩
      intro _ hw; simp_all
  | closing =>
    simp only [hcon, Contactor.driven, Contactor.sensing, reduceCtorEq, decide_false] at h1 h2 h3 h4 h5
    dsimp only
    split
    · rw [PowerStage.contactorOk_iff]
      exact ⟨by simp_all [PowerStage.contactorCore, Contactor.driven, Contactor.sensing], by simp_all, by simp [hcon]⟩
    · exact PowerStage.beginSensePhase_ok h4 h5 h9 h10
  | isClosed =>
    simp only [hcon, Contactor.driven, Contactor.sensing, reduceCtorEq, decide_false] at h1 h2 h3 h4 h5
    dsimp only
    split
    · rw [PowerStage.contactorOk_iff]
      exact ⟨by simp_all [PowerStage.contactorCore, Contactor.driven, Contactor.sensing], by simp_all, by simp [hcon]⟩
    · exact PowerStage.beginDrawPhase_ok h1 h2 h4 h5 h9 h10
  | opening p =>
    rw [PowerStage.contactorOk_iff]
    refine ⟨⟨h1, h2, h3, h4, h5, h6, h7, h8, h9, h10⟩, ?_, ?_⟩ <;> simp [hcon, Contactor.engaged]
  | closeFault =>
    rw [PowerStage.contactorOk_iff]
    refine ⟨⟨h1, h2, h3, h4, h5, h6, h7, h8, h9, h10⟩, ?_, ?_⟩ <;> simp [hcon, Contactor.engaged]
  | weldFault =>
    rw [PowerStage.contactorOk_iff]
    refine ⟨⟨h1, h2, h3, h4, h5, h6, h7, h8, h9, h10⟩, ?_, ?_⟩ <;> simp [hcon, Contactor.engaged]

/-- Being told the walker's view keeps the contactor in order. -/
theorem PowerStage.Told.contactorOk {a b : PowerStage} (h : PowerStage.Told active a b) (ha : a.contactorOk active) :
    b.contactorOk active := by
  induction h with
  | refl => exact ha
  | tell _ pw ih => exact PowerStage.judge_ok (PowerStage.contactorOk_iff.mp ih).1

/-! ## What a judgement moves -/

/-- `b` differs from `a` in no more than the setpoint, the contactor, its drive and its two timers. -/
def PowerStage.MovedFrom (a b : PowerStage) : Prop :=
  b = { a with setpoint := b.setpoint, contactor := b.contactor, drive := b.drive, senseTimer := b.senseTimer, drawWait := b.drawWait }

theorem PowerStage.enterClosing_moved : ps.MovedFrom ps.enterClosing := by
  unfold PowerStage.enterClosing; split <;> rfl

theorem PowerStage.enterOpen_moved : ps.MovedFrom (ps.enterOpen active) := by
  unfold PowerStage.enterOpen; dsimp only; split
  · unfold PowerStage.enterClosing; split <;> rfl
  · rfl

theorem PowerStage.beginSensePhase_moved : ps.MovedFrom (ps.beginSensePhase active) := by
  unfold PowerStage.beginSensePhase; dsimp only; split
  · rfl
  · exact (PowerStage.enterOpen_moved (active := active)).trans rfl

theorem PowerStage.beginDrawPhase_moved : ps.MovedFrom (ps.beginDrawPhase active) := by
  unfold PowerStage.beginDrawPhase; dsimp only; split
  · exact (PowerStage.beginSensePhase_moved (active := active)).trans rfl
  · rfl

theorem PowerStage.judge_moved : ps.MovedFrom (ps.judge active) := by
  unfold PowerStage.judge
  (repeat' split) <;>
    first | rfl | exact PowerStage.enterClosing_moved | exact PowerStage.beginSensePhase_moved | exact PowerStage.beginDrawPhase_moved

@[simp] theorem PowerStage.judge_target : (ps.judge active).target = ps.target :=
  (congrArg PowerStage.target (show ps.judge active = _ from PowerStage.judge_moved)).trans rfl
@[simp] theorem PowerStage.judge_shedHold : (ps.judge active).shedHold = ps.shedHold :=
  (congrArg PowerStage.shedHold (show ps.judge active = _ from PowerStage.judge_moved)).trans rfl
@[simp] theorem PowerStage.judge_acceptLimit : (ps.judge active).acceptLimit = ps.acceptLimit :=
  (congrArg PowerStage.acceptLimit (show ps.judge active = _ from PowerStage.judge_moved)).trans rfl
@[simp] theorem PowerStage.judge_plugDetected : (ps.judge active).plugDetected = ps.plugDetected :=
  (congrArg PowerStage.plugDetected (show ps.judge active = _ from PowerStage.judge_moved)).trans rfl
@[simp] theorem PowerStage.judge_linkWorking : (ps.judge active).linkWorking = ps.linkWorking :=
  (congrArg PowerStage.linkWorking (show ps.judge active = _ from PowerStage.judge_moved)).trans rfl
@[simp] theorem PowerStage.judge_viewState : (ps.judge active).viewState = ps.viewState :=
  (congrArg PowerStage.viewState (show ps.judge active = _ from PowerStage.judge_moved)).trans rfl
@[simp] theorem PowerStage.judge_viewLinkLost : (ps.judge active).viewLinkLost = ps.viewLinkLost :=
  (congrArg PowerStage.viewLinkLost (show ps.judge active = _ from PowerStage.judge_moved)).trans rfl
@[simp] theorem PowerStage.judge_viewMeterLost : (ps.judge active).viewMeterLost = ps.viewMeterLost :=
  (congrArg PowerStage.viewMeterLost (show ps.judge active = _ from PowerStage.judge_moved)).trans rfl
@[simp] theorem PowerStage.judge_closeLatch : (ps.judge active).closeLatch = ps.closeLatch :=
  (congrArg PowerStage.closeLatch (show ps.judge active = _ from PowerStage.judge_moved)).trans rfl
@[simp] theorem PowerStage.judge_weldLatch : (ps.judge active).weldLatch = ps.weldLatch :=
  (congrArg PowerStage.weldLatch (show ps.judge active = _ from PowerStage.judge_moved)).trans rfl
@[simp] theorem PowerStage.judge_closeMisses : (ps.judge active).closeMisses = ps.closeMisses :=
  (congrArg PowerStage.closeMisses (show ps.judge active = _ from PowerStage.judge_moved)).trans rfl
@[simp] theorem PowerStage.judge_retryWait : (ps.judge active).retryWait = ps.retryWait :=
  (congrArg PowerStage.retryWait (show ps.judge active = _ from PowerStage.judge_moved)).trans rfl
@[simp] theorem PowerStage.judge_draw : (ps.judge active).draw = ps.draw :=
  (congrArg PowerStage.draw (show ps.judge active = _ from PowerStage.judge_moved)).trans rfl
@[simp] theorem PowerStage.judge_updateTaken : (ps.judge active).updateTaken = ps.updateTaken :=
  (congrArg PowerStage.updateTaken (show ps.judge active = _ from PowerStage.judge_moved)).trans rfl
@[simp] theorem PowerStage.judge_updateAge : (ps.judge active).updateAge = ps.updateAge :=
  (congrArg PowerStage.updateAge (show ps.judge active = _ from PowerStage.judge_moved)).trans rfl
@[simp] theorem PowerStage.judge_meterLost : (ps.judge active).meterLost = ps.meterLost :=
  (congrArg PowerStage.meterLost (show ps.judge active = _ from PowerStage.judge_moved)).trans rfl
@[simp] theorem PowerStage.judge_senseClosed : (ps.judge active).senseClosed = ps.senseClosed :=
  (congrArg PowerStage.senseClosed (show ps.judge active = _ from PowerStage.judge_moved)).trans rfl

/-! ## The setpoint -/

/-- A setpoint of 0 is in order whatever else holds. -/
theorem PowerStage.setpointOk_zero (h : ps.setpoint = 0) : ps.setpointOk c := Or.inl h

theorem PowerStage.enterClosing_setpoint : ps.enterClosing.setpoint = ps.setpoint := by
  unfold PowerStage.enterClosing; split <;> rfl

theorem PowerStage.enterOpen_setpoint : (ps.enterOpen active).setpoint = ps.setpoint := by
  unfold PowerStage.enterOpen; dsimp only; split
  · rw [PowerStage.enterClosing_setpoint]
  · rfl

theorem PowerStage.beginSensePhase_setpoint : (ps.beginSensePhase active).setpoint = ps.setpoint := by
  unfold PowerStage.beginSensePhase; dsimp only; split
  · rfl
  · rw [PowerStage.enterOpen_setpoint]

theorem PowerStage.beginDrawPhase_setpoint : (ps.beginDrawPhase active).setpoint = 0 := by
  unfold PowerStage.beginDrawPhase; dsimp only; split
  · rw [PowerStage.beginSensePhase_setpoint]
  · rfl

theorem PowerStage.setpointOk_notClosed (h : ps.setpointOk c) (hc : ps.contactor ≠ .isClosed) : ps.setpoint = 0 := by
  rcases h with h | h
  · exact h
  · exact absurd h.1 hc

/-- A judgement keeps the setpoint in order: it stays as it is in CLOSED and is 0 elsewhere (R132, R137). -/
theorem PowerStage.judge_setpointOk (h : ps.setpointOk c) : (ps.judge active).setpointOk c := by
  unfold PowerStage.judge
  cases hcon : ps.contactor with
  | isOpen =>
    dsimp only; split
    · exact PowerStage.setpointOk_zero (by rw [PowerStage.enterClosing_setpoint, PowerStage.setpointOk_notClosed h (by simp [hcon])])
    · exact h
  | closing =>
    dsimp only; split
    · exact h
    · exact PowerStage.setpointOk_zero (by rw [PowerStage.beginSensePhase_setpoint, PowerStage.setpointOk_notClosed h (by simp [hcon])])
  | isClosed =>
    dsimp only; split
    · exact h
    · exact PowerStage.setpointOk_zero PowerStage.beginDrawPhase_setpoint
  | opening p => exact h
  | closeFault => exact h
  | weldFault => exact h

theorem PowerStage.Told.setpointOk {a b : PowerStage} (h : PowerStage.Told active a b) (ha : a.setpointOk c) : b.setpointOk c := by
  induction h with
  | refl => exact ha
  | tell _ pw ih => exact PowerStage.judge_setpointOk ih

/-! ## Postings, sheds and the accept limit -/

/-- A limited setpoint is 0, or at least P_min and at most what it was limited from (R130, R131). -/
theorem limitSetpoint_spec (pMin limit v : Nat) :
    limitSetpoint pMin limit v = 0 ∨ (pMin ≤ limitSetpoint pMin limit v ∧ limitSetpoint pMin limit v ≤ v ∧ limitSetpoint pMin limit v ≤ limit) := by
  unfold limitSetpoint; split <;> omega

/-- A share is one R67 allows: 0, or from P_min to P_bay. -/
def shareOk (c : Settings) (share : Nat) : Prop := share = 0 ∨ (c.pMin ≤ share ∧ share ≤ c.pBay)

/-- What a posting makes of the setpoint before the accept limit (R130): nothing outside CLOSED or with the meter lost, and never more
than the share. -/
theorem postedSetpoint_spec (c : Settings) (share : Nat) (ps : PowerStage) :
    postedSetpoint c share ps ≤ share ∧ (ps.contactor ≠ .isClosed ∨ ps.meterLost = true → postedSetpoint c share ps = 0) := by
  unfold postedSetpoint
  refine ⟨?_, fun h => by rw [if_pos h]⟩
  (repeat' split) <;> omega

/-- A posting of a share that R67 allows keeps the setpoint in order (R130, R132). -/
theorem PowerStage.takePosting_setpointOk {share : Nat} (hs : shareOk c share) : (ps.takePosting c share).setpointOk c := by
  obtain ⟨h1, h2⟩ := postedSetpoint_spec c share ps
  unfold PowerStage.takePosting PowerStage.setpointOk
  dsimp only
  by_cases hc : ps.contactor = .isClosed ∧ ps.meterLost = false
  · rcases limitSetpoint_spec c.pMin ps.acceptLimit (postedSetpoint c share ps) with h | h
    · exact Or.inl h
    · refine (Nat.eq_zero_or_pos (limitSetpoint c.pMin ps.acceptLimit (postedSetpoint c share ps))).imp id (fun hpos => ?_)
      refine ⟨hc.1, hc.2, h.1, ?_, by omega, h.2.2⟩
      rcases hs with hs | hs <;> omega
  · rw [h2 (by rcases not_and_or.mp hc with h | h; exacts [Or.inl h, Or.inr (by simpa using h)])]; simp [limitSetpoint]

theorem PowerStage.takeAcceptLimit_setpointOk {limit : Nat} (h : ps.setpointOk c) :
    (ps.takeAcceptLimit c.pMin limit).setpointOk c := by
  unfold PowerStage.takeAcceptLimit PowerStage.setpointOk at *
  dsimp only
  have := limitSetpoint_spec c.pMin limit ps.setpoint
  rcases h with h | ⟨h1, hm, h2, h3, h4, h5⟩ <;> split <;> first | omega | skip
  · rcases this with h | h
    · exact Or.inl h
    · exact Or.inr ⟨h1, hm, h.1, by omega, by omega, h.2.2⟩
  · exact Or.inr ⟨h1, hm, h2, h3, h4, by omega⟩

/-- A shed keeps the setpoint or lowers it, and never leaves it between 0 and P_min (R133). -/
theorem shedSetpoint_spec (c : Settings) (total v : Nat) :
    shedSetpoint c total v = v ∨ shedSetpoint c total v = 0 ∨ (c.pMin ≤ shedSetpoint c total v ∧ shedSetpoint c total v ≤ v) := by
  unfold shedSetpoint
  split
  · split
    · exact Or.inr (Or.inl rfl)
    · rename_i h1 h2
      refine Or.inr (Or.inr ⟨not_lt.mp h2, ?_⟩)
      refine Nat.div_le_of_le_mul ?_
      rw [mul_comm total]
      exact Nat.mul_le_mul_left v (by omega)
  · exact Or.inl rfl

theorem PowerStage.shed_setpointOk {total : Nat} (h : ps.setpointOk c) : (ps.shed c total).setpointOk c := by
  unfold PowerStage.shed PowerStage.setpointOk at *
  dsimp only
  have := shedSetpoint_spec c total ps.setpoint
  rcases h with h | ⟨h1, hm, h2, h3, h4, h5⟩
  · exact Or.inl (by omega)
  · rcases this with h | h | h
    · exact Or.inr ⟨h1, hm, by omega, by omega, by omega, by omega⟩
    · exact Or.inl h
    · exact Or.inr ⟨h1, hm, h.1, by omega, by omega, by omega⟩

/-- Postings, sheds and the accept limit do not touch the contactor (R130, R131, R133). -/
theorem PowerStage.takePosting_contactorOk {share : Nat} (h : ps.contactorOk active) : (ps.takePosting c share).contactorOk active := by
  obtain ⟨h1, h2, h3, h4, h5, h6, h7, h8, h9, h10, h11, h12⟩ := h
  exact ⟨h1, h2, h3, h4, h5, h6, h7, h8, h9, h10, h11, by unfold PowerStage.takePosting; dsimp only; omega⟩

theorem PowerStage.takeAcceptLimit_contactorOk {pMin limit : Nat} (h : ps.contactorOk active) :
    (ps.takeAcceptLimit pMin limit).contactorOk active := h

theorem PowerStage.shed_contactorOk {total : Nat} (h : ps.contactorOk active) : (ps.shed c total).contactorOk active := by
  obtain ⟨h1, h2, h3, h4, h5, h6, h7, h8, h9, h10, h11, h12⟩ := h
  exact ⟨h1, h2, h3, h4, h5, h6, h7, h8, h9, h10, h11, by unfold PowerStage.shed; dsimp only; omega⟩

end Sys2Proof.Machine
end

