-- ==== Sys2Proof/Laws/Queue.lean ====
section
/-! SUPPORT. The transmit queue: what queueing, displacing, marking and removing do to the queue's invariant, and that no operation of
another block touches the Line Interface but by queueing a frame and beginning an attempt. -/

namespace Sys2Proof.Machine

/-! ## The queue as a list -/

/-- The part of `LineInterface.queueOk` that speaks of the queue alone. -/
def queueListOk (q : List QueueEntry) : Prop :=
  q.length ≤ 4
    ∧ q.Pairwise (fun a b => a.frame.cls ≤ b.frame.cls)
    ∧ q.countP QueueEntry.isClaim ≤ 1
    ∧ q.countP QueueEntry.isDiag ≤ 1
    ∧ ∀ e ∈ q, e.retries ≤ 2 ∧ (e.replaced = true → e.onLine = true ∧ e.isClaim = true)

theorem LineInterface.queueOk_iff (li : LineInterface) :
    li.queueOk ↔ queueListOk li.queue ∧ li.queue.countP QueueEntry.onLine = (if li.line = .sending then 1 else 0)
      ∧ (li.stuck = true → li.line ≠ .sending) := by
  unfold LineInterface.queueOk queueListOk; tauto

/-- A sublist of a good queue is good. -/
theorem queueListOk_sublist {p q : List QueueEntry} (h : p.Sublist q) (hq : queueListOk q) : queueListOk p :=
  ⟨h.length_le.trans hq.1, hq.2.1.sublist h, h.countP_le.trans hq.2.2.1, h.countP_le.trans hq.2.2.2.1,
    fun e he => hq.2.2.2.2 e (h.subset he)⟩

theorem countP_insertEntry (p : QueueEntry → Bool) (e : QueueEntry) (q : List QueueEntry) :
    (insertEntry e q).countP p = (e :: q).countP p := by
  unfold insertEntry
  conv_rhs => rw [← List.takeWhile_append_dropWhile (p := fun x => decide (x.frame.cls ≤ e.frame.cls)) (l := q)]
  simp only [List.countP_append, List.countP_cons]; omega

theorem length_insertEntry (e : QueueEntry) (q : List QueueEntry) : (insertEntry e q).length = q.length + 1 := by
  unfold insertEntry
  conv_rhs => rw [← List.takeWhile_append_dropWhile (p := fun x => decide (x.frame.cls ≤ e.frame.cls)) (l := q)]
  simp only [List.length_append, List.length_cons]; omega

theorem mem_insertEntry {e x : QueueEntry} {q : List QueueEntry} : x ∈ insertEntry e q ↔ x = e ∨ x ∈ q := by
  unfold insertEntry
  conv_rhs => rw [← List.takeWhile_append_dropWhile (p := fun x => decide (x.frame.cls ≤ e.frame.cls)) (l := q)]
  simp only [List.mem_append, List.mem_cons]; tauto

theorem cls_of_mem_dropWhile (c : Nat) : ∀ q : List QueueEntry, q.Pairwise (fun a b => a.frame.cls ≤ b.frame.cls) →
    ∀ x ∈ q.dropWhile (fun x => decide (x.frame.cls ≤ c)), c < x.frame.cls
  | [], _, x, hx => by simp at hx
  | y :: ys, hp, x, hx => by
    rw [List.pairwise_cons] at hp
    rw [List.dropWhile_cons] at hx
    split at hx
    · exact cls_of_mem_dropWhile c ys hp.2 x hx
    · rename_i h
      simp only [decide_eq_true_eq, not_le] at h
      rcases List.mem_cons.mp hx with rfl | hx
      · exact h
      · exact lt_of_lt_of_le h (hp.1 x hx)

/-- An entry put in by class, behind its equals, leaves the queue in class order (R20). -/
theorem insertEntry_ordered (e : QueueEntry) {q : List QueueEntry} (hq : q.Pairwise (fun a b => a.frame.cls ≤ b.frame.cls)) :
    (insertEntry e q).Pairwise (fun a b => a.frame.cls ≤ b.frame.cls) := by
  have ht : ∀ x ∈ q.takeWhile (fun x => decide (x.frame.cls ≤ e.frame.cls)), x.frame.cls ≤ e.frame.cls := fun x hx => by
    simpa using List.mem_takeWhile_imp hx
  have hd := cls_of_mem_dropWhile e.frame.cls q hq
  unfold insertEntry
  refine List.pairwise_append.mpr ⟨hq.sublist (List.takeWhile_sublist _), ?_, ?_⟩
  · exact List.pairwise_cons.mpr ⟨fun x hx => (hd x hx).le, hq.sublist (List.dropWhile_sublist _)⟩
  · intro a ha b hb
    rcases List.mem_cons.mp hb with rfl | hb
    · exact ht a ha
    · exact (ht a ha).trans (hd b hb).le

/-- The least queue that a frame fits beside: R23 frees a place in a full one. -/
theorem displace_spec {q : List QueueEntry} (hq : queueListOk q) (hl : q.countP QueueEntry.onLine ≤ 1) :
    (displace q).length ≤ 3 ∧ (displace q).Sublist q ∧ (displace q).countP QueueEntry.onLine = q.countP QueueEntry.onLine
      ∧ (displace q).countP QueueEntry.isClaim = q.countP QueueEntry.isClaim := by
  unfold displace
  split
  · exact ⟨by omega, List.Sublist.refl _, rfl, rfl⟩
  · rename_i hlen
    obtain ⟨h4, -, hc, -, -⟩ := hq
    have hex : ∃ e ∈ q, e.displaceable = true := by
      by_contra hno
      push Not at hno
      have : q.length ≤ q.countP QueueEntry.isClaim + q.countP QueueEntry.onLine := by
        clear h4 hc hl hlen
        induction q with
        | nil => simp
        | cons x xs ih =>
          have hx := hno x (by simp)
          have := ih (fun e he => hno e (by simp [he]))
          simp only [List.length_cons, List.countP_cons]
          unfold QueueEntry.displaceable at hx
          cases hxc : x.isClaim <;> cases hxo : x.onLine <;> simp_all <;> omega
      omega
    obtain ⟨x, hx, hxd⟩ := hex
    obtain ⟨a, l₁, l₂, -, had, rfl, he⟩ := List.exists_of_eraseP hx hxd
    rw [he]
    unfold QueueEntry.displaceable at had
    simp only [Bool.and_eq_true, Bool.not_eq_true'] at had
    simp only [List.length_append, List.length_cons] at h4 ⊢
    refine ⟨by omega, by simp, ?_, ?_⟩ <;> simp [had]

/-- A frame that joins a good queue leaves it good (R20, R23). -/
theorem joinQueue_spec {q : List QueueEntry} (f : OwnFrame) (hq : queueListOk q) (hl : q.countP QueueEntry.onLine ≤ 1)
    (hc : (QueueEntry.fresh f).isClaim = true → q.countP QueueEntry.isClaim = 0)
    (hd : (QueueEntry.fresh f).isDiag = true → q.countP QueueEntry.isDiag = 0) :
    queueListOk (joinQueue f q) ∧ (joinQueue f q).countP QueueEntry.onLine = q.countP QueueEntry.onLine := by
  obtain ⟨h3, hs, ho, hcl⟩ := displace_spec hq hl
  have hq' := queueListOk_sublist hs hq
  unfold joinQueue
  refine ⟨⟨by rw [length_insertEntry]; omega, insertEntry_ordered _ hq'.2.1, ?_, ?_, ?_⟩, ?_⟩
  · rw [countP_insertEntry, List.countP_cons, hcl]
    split
    · rename_i h; rw [hc h]
    · simpa using hq.2.2.1
  · rw [countP_insertEntry, List.countP_cons]
    have := hs.countP_le (p := QueueEntry.isDiag)
    split
    · rename_i h; have := hd h; omega
    · simpa using hq'.2.2.2.1
  · intro e he
    rcases mem_insertEntry.mp he with rfl | he
    · simp [QueueEntry.fresh]
    · exact hq'.2.2.2.2 e he
  · rw [countP_insertEntry, List.countP_cons, ho]; simp [QueueEntry.fresh]

@[simp] theorem QueueEntry.replaceClaim_onLine (c : ClaimContents) (e : QueueEntry) : (e.replaceClaim c).onLine = e.onLine := by
  unfold QueueEntry.replaceClaim; split <;> rfl

@[simp] theorem QueueEntry.replaceClaim_cls (c : ClaimContents) (e : QueueEntry) : (e.replaceClaim c).frame.cls = e.frame.cls := by
  unfold QueueEntry.replaceClaim QueueEntry.isClaim
  cases h : e.frame <;> simp [OwnFrame.cls, h]

@[simp] theorem QueueEntry.replaceClaim_isClaim (c : ClaimContents) (e : QueueEntry) : (e.replaceClaim c).isClaim = e.isClaim := by
  unfold QueueEntry.replaceClaim QueueEntry.isClaim
  cases h : e.frame <;> simp [h]

@[simp] theorem QueueEntry.replaceClaim_isDiag (c : ClaimContents) (e : QueueEntry) : (e.replaceClaim c).isDiag = e.isDiag := by
  unfold QueueEntry.replaceClaim QueueEntry.isClaim QueueEntry.isDiag
  cases h : e.frame <;> simp [h]

theorem countP_map_eq {p : QueueEntry → Bool} {g : QueueEntry → QueueEntry} (h : ∀ e, p (g e) = p e) (q : List QueueEntry) :
    (q.map g).countP p = q.countP p := by
  rw [List.countP_map]; exact List.countP_congr (fun e _ => by simp [h e])

/-- Queueing a frame keeps the queue good, and the entry on the line (R20 to R23). -/
theorem queueFrame_spec {q : List QueueEntry} (f : OwnFrame) (hq : queueListOk q) (hl : q.countP QueueEntry.onLine ≤ 1) :
    queueListOk (queueFrame f q) ∧ (queueFrame f q).countP QueueEntry.onLine = q.countP QueueEntry.onLine := by
  unfold queueFrame
  cases f with
  | claim c =>
    simp only
    split
    · refine ⟨⟨by simpa using hq.1, ?_, ?_, ?_, ?_⟩, countP_map_eq (by simp) q⟩
      · rw [List.pairwise_map]; simpa using hq.2.1
      · rw [countP_map_eq (by simp)]; exact hq.2.2.1
      · rw [countP_map_eq (by simp)]; exact hq.2.2.2.1
      · intro e he
        obtain ⟨x, hx, rfl⟩ := List.mem_map.mp he
        have hx' := hq.2.2.2.2 x hx
        refine ⟨?_, ?_⟩
        · unfold QueueEntry.replaceClaim; split <;> simp [hx'.1]
        · simp only [QueueEntry.replaceClaim_onLine, QueueEntry.replaceClaim_isClaim]
          unfold QueueEntry.replaceClaim
          split
          · rename_i h; intro hr; exact ⟨hr, h⟩
          · exact hx'.2
    · rename_i h
      refine joinQueue_spec _ hq hl (fun _ => ?_) (fun h => by simp [QueueEntry.fresh, QueueEntry.isDiag] at h)
      rw [List.countP_eq_zero]
      simpa using h
  | diag =>
    simp only
    split
    · exact ⟨hq, rfl⟩
    · rename_i h
      refine joinQueue_spec _ hq hl (fun h => by simp [QueueEntry.fresh, QueueEntry.isClaim] at h) (fun _ => ?_)
      rw [List.countP_eq_zero]
      simpa using h
  | report r =>
    exact joinQueue_spec _ hq hl (fun h => by simp [QueueEntry.fresh, QueueEntry.isClaim] at h)
      (fun h => by simp [QueueEntry.fresh, QueueEntry.isDiag] at h)

/-! ## What an attempt does -/

@[simp] theorem QueueEntry.isClaim_onLine (e : QueueEntry) (b : Bool) : ({ e with onLine := b } : QueueEntry).isClaim = e.isClaim := rfl
@[simp] theorem QueueEntry.isDiag_onLine (e : QueueEntry) (b : Bool) : ({ e with onLine := b } : QueueEntry).isDiag = e.isDiag := rfl

theorem markHead_spec {q : List QueueEntry} (hne : q ≠ []) (hq : queueListOk q) (h0 : q.countP QueueEntry.onLine = 0) :
    queueListOk (markHead q) ∧ (markHead q).countP QueueEntry.onLine = 1 := by
  cases q with
  | nil => exact absurd rfl hne
  | cons e rest =>
    obtain ⟨h4, hp, hc, hd, ha⟩ := hq
    rw [List.countP_cons] at h0 hc hd
    have h0' : rest.countP QueueEntry.onLine = 0 := by omega
    refine ⟨⟨by simpa [markHead] using h4, by simpa [markHead, List.pairwise_cons] using hp, ?_, ?_, ?_⟩, ?_⟩
    · rw [markHead, List.countP_cons, QueueEntry.isClaim_onLine]; exact hc
    · rw [markHead, List.countP_cons, QueueEntry.isDiag_onLine]; exact hd
    · intro x hx
      rcases List.mem_cons.mp hx with rfl | hx
      · have := ha e (by simp)
        exact ⟨this.1, fun h => ⟨rfl, (this.2 h).2⟩⟩
      · exact ha x (by simp [hx])
    · rw [markHead, List.countP_cons, h0']; rfl

/-- What the Line Interface may become by frames being queued and attempts begun (R16, R20 to R23). -/
inductive LineInterface.Queued : LineInterface → LineInterface → Prop
  | refl (li : LineInterface) : Queued li li
  | queue {a b : LineInterface} (h : Queued a b) (f : OwnFrame) : Queued a { b with queue := queueFrame f b.queue }
  | attempt {a b : LineInterface} (h : Queued a b) (idle : b.line = .idle) (waiting : b.queue ≠ []) (free : b.stuck = false)
      (o : LineOutput) (driven : o ≠ .recessive) : Queued a { b with line := .sending, queue := markHead b.queue, output := o }

theorem LineInterface.Queued.trans {a b c : LineInterface} (h : Queued a b) (k : Queued b c) : Queued a c := by
  induction k with
  | refl => exact h
  | queue _ f ih => exact .queue ih f
  | attempt _ hi hw hf o ho ih => exact .attempt ih hi hw hf o ho

/-- Queueing keeps the queue's invariant (R16, R18, R20 to R23). -/
theorem LineInterface.Queued.queueOk {a b : LineInterface} (h : Queued a b) (ha : a.queueOk) : b.queueOk := by
  induction h with
  | refl => exact ha
  | queue _ f ih =>
    obtain ⟨hl, ho, hs⟩ := (LineInterface.queueOk_iff _).mp ih
    have := queueFrame_spec f hl (by rw [ho]; split <;> omega)
    exact (LineInterface.queueOk_iff _).mpr ⟨this.1, by simpa [this.2] using ho, hs⟩
  | attempt _ hi hw hf o _ ih =>
    obtain ⟨hl, ho, -⟩ := (LineInterface.queueOk_iff _).mp ih
    have := markHead_spec hw hl (by simpa [hi] using ho)
    exact (LineInterface.queueOk_iff _).mpr ⟨this.1, by simpa using this.2, by simp [hf]⟩

/-- Queueing leaves everything of the Line Interface but the line state, the queue and the output. -/
theorem LineInterface.Queued.rest {a b : LineInterface} (h : Queued a b) :
    b.recessive = a.recessive ∧ b.rxBuffer = a.rxBuffer ∧ b.validCount = a.validCount ∧ b.discardCount = a.discardCount
      ∧ b.errors = a.errors ∧ b.stuck = a.stuck ∧ b.stuckSeen = a.stuckSeen
      ∧ (b.line = a.line ∨ (a.line = .idle ∧ b.line = .sending)) := by
  induction h with
  | refl => simp
  | queue _ f ih => simpa using ih
  | attempt _ hi _ _ o _ ih =>
    obtain ⟨h1, h2, h3, h4, h5, h6, h7, h8⟩ := ih
    refine ⟨h1, h2, h3, h4, h5, h6, h7, Or.inr ⟨?_, rfl⟩⟩
    rcases h8 with h8 | h8
    · rw [← h8]; exact hi
    · exact h8.1

/-- Queueing keeps the line driven in SENDING only (R1, R16). -/
theorem LineInterface.Queued.outputOk {a b : LineInterface} (h : LineInterface.Queued a b) (ha : a.outputOk) : b.outputOk := by
  induction h with
  | refl => exact ha
  | queue _ f ih => exact ih
  | attempt _ hi hw hf o ho ih => simp [LineInterface.outputOk, ho]

/-! ## Who queues -/

theorem State.maySend_iff (s : State) :
    s.maySend = true ↔ s.li.line = .idle ∧ s.li.queue ≠ [] ∧ s.li.stuck = false ∧ validSender s.sl.stationId = true := by
  unfold State.maySend; simp; tauto

/-- An attempt drives the head frame's levels (R1, R16). -/
theorem State.headOutput_driven {s : State} (hw : s.li.queue ≠ []) : s.headOutput ≠ .recessive := by
  unfold State.headOutput
  split
  · exact absurd ‹_› hw
  · simp

theorem State.trySend_queued (s : State) : s.li.Queued s.trySend.li := by
  unfold State.trySend
  split
  · rename_i h
    obtain ⟨hi, hw, hf, -⟩ := s.maySend_iff.mp h
    exact .attempt (.refl _) hi hw hf _ (State.headOutput_driven hw)
  · exact .refl _

theorem State.enqueue_queued (f : OwnFrame) (s : State) : s.li.Queued (s.enqueue f).li :=
  (LineInterface.Queued.queue (.refl _) f).trans
    (State.trySend_queued (s.withLi { s.li with queue := queueFrame f s.li.queue }))

theorem State.queueReport_queued (kind : ReportKind) (tag : VanTag) (detail : Nat) (s : State) :
    s.li.Queued (s.queueReport kind tag detail).li := by
  unfold State.queueReport
  split
  · exact State.enqueue_queued _ _
  · exact .refl _

end Sys2Proof.Machine
end

