-- ==== Sys2Proof/Laws/Queueing.lean ====
section
/-! SUPPORT. Every operation that reaches the Line Interface from another block does so by queueing frames (R16, R20 to R23, R153). -/

namespace Sys2Proof.Machine

variable (s : State)

theorem State.setCloseLatch_queued : s.li.Queued (s.setCloseLatch).li := by
  simp only [State.setCloseLatch]
  refine .trans ?_ (State.queueReport_queued _ _ _ _)
  simp [LineInterface.Queued.refl]

theorem State.setWeldLatch_queued : s.li.Queued (s.setWeldLatch).li := by
  simp only [State.setWeldLatch]
  refine .trans ?_ (State.queueReport_queued _ _ _ _)
  simp [LineInterface.Queued.refl]

theorem State.failedClose_queued : s.li.Queued (s.failedClose).li := by
  simp only [State.failedClose]
  (repeat' split) <;> first | (refine .trans ?_ (State.setCloseLatch_queued _); simp [LineInterface.Queued.refl]) | simp [LineInterface.Queued.refl]

theorem State.buildDone_queued : s.li.Queued (s.buildDone).li := by
  simp only [State.buildDone]
  refine .trans ?_ (State.queueReport_queued _ _ _ _)
  simp [LineInterface.Queued.refl]

theorem State.build_queued (plan : Plan) (van : AttachedVan) (st : VanStatus) : s.li.Queued (State.build plan van st s).li := by
  simp only [State.build]
  (repeat' split) <;> first | (refine .trans ?_ (State.buildDone_queued _); simp [LineInterface.Queued.refl]) | simp [LineInterface.Queued.refl]

theorem State.buildOrAwait_queued : s.li.Queued (s.buildOrAwait).li := by
  simp only [State.buildOrAwait]
  (repeat' split) <;> first | (refine .trans ?_ (State.build_queued _ _ _ _); simp [LineInterface.Queued.refl]) | simp [LineInterface.Queued.refl]

theorem State.finish_queued (p : WalkerPos) : s.li.Queued (State.finish p s).li := by
  simp only [State.finish]
  refine .trans ?_ (State.queueReport_queued _ _ _ _)
  simp [LineInterface.Queued.refl]

theorem State.afterStep_queued (p : WalkerPos) (st : ProgStep) : s.li.Queued (State.afterStep p st s).li := by
  simp only [State.afterStep]
  (repeat' split) <;> (repeat (first | refine .trans ?_ (State.buildOrAwait_queued _) | refine .trans ?_ (State.finish_queued _ _))) <;> simp [LineInterface.Queued.refl]

theorem State.endStep_queued (refusal : Bool) : s.li.Queued (State.endStep refusal s).li := by
  simp only [State.endStep]
  (repeat' split) <;> (repeat (first | refine .trans ?_ (State.afterStep_queued _ _ _) | refine .trans ?_ (State.queueReport_queued _ _ _ _))) <;> simp [LineInterface.Queued.refl]

theorem State.minuteRoll_queued (clockSet : Bool) : s.li.Queued (State.minuteRoll clockSet s).li := by
  simp only [State.minuteRoll]
  (repeat' split) <;> first | (refine .trans ?_ (State.buildOrAwait_queued _); simp [LineInterface.Queued.refl]) | simp [LineInterface.Queued.refl]

theorem State.freshArrival_queued (tag : VanTag) (capacity : Nat) : s.li.Queued (State.freshArrival tag capacity s).li := by
  simp only [State.freshArrival]
  refine .trans ?_ (State.queueReport_queued _ _ _ _)
  simp [LineInterface.Queued.refl]

theorem State.vanIdentified_queued (tag : VanTag) (capacity : Nat) : s.li.Queued (State.vanIdentified tag capacity s).li := by
  simp only [State.vanIdentified]
  (repeat' split) <;> first | (refine .trans ?_ (State.freshArrival_queued _ _ _); simp [LineInterface.Queued.refl]) | simp [LineInterface.Queued.refl]

theorem State.differentVan_queued (tag : VanTag) (capacity : Nat) : s.li.Queued (State.differentVan tag capacity s).li := by
  simp only [State.differentVan]
  split
  · exact State.freshArrival_queued _ _ _
  · refine .trans (State.queueReport_queued .departed s.pw.tag s.pw.delivered s) ?_
    refine .trans ?_ (State.freshArrival_queued _ _ _)
    simp [LineInterface.Queued.refl]

theorem State.walkerPlugRemoved_queued : s.li.Queued (s.walkerPlugRemoved).li := by
  simp only [State.walkerPlugRemoved]
  (repeat' split) <;> first | (refine .trans ?_ (State.queueReport_queued _ _ _ _); simp [LineInterface.Queued.refl]) | simp [LineInterface.Queued.refl]

theorem State.takeStatus_queued (soc : Nat) (temperature : Int) : s.li.Queued (State.takeStatus soc temperature s).li := by
  simp only [State.takeStatus]
  (repeat' split) <;> (repeat (first | refine .trans ?_ (State.buildOrAwait_queued _) | refine .trans ?_ (State.endStep_queued _ _))) <;> simp [LineInterface.Queued.refl]

theorem State.heaterRefused_queued (h : Heaters) : s.li.Queued (State.heaterRefused h s).li := by
  simp only [State.heaterRefused]
  (repeat' split) <;> (repeat (first | refine .trans ?_ (State.endStep_queued _ _) | refine .trans ?_ (State.queueReport_queued _ _ _ _))) <;> simp [LineInterface.Queued.refl]

theorem State.countPulse_queued : s.li.Queued (s.countPulse).li := by
  simp only [State.countPulse]
  (repeat' split) <;> first | (refine .trans ?_ (State.endStep_queued _ _); simp [LineInterface.Queued.refl]) | simp [LineInterface.Queued.refl]

theorem State.takePlan_queued (plan : Plan) : s.li.Queued (State.takePlan plan s).li := by
  simp only [State.takePlan]
  (repeat' split) <;> (repeat (first | refine .trans ?_ (State.buildOrAwait_queued _) | refine .trans ?_ (State.queueReport_queued _ _ _ _))) <;> simp [LineInterface.Queued.refl]

theorem State.judgePlan_queued (plan : Plan) : s.li.Queued (State.judgePlan plan s).li := by
  simp only [State.judgePlan]
  (repeat' split) <;> (repeat (first | refine .trans ?_ (State.queueReport_queued _ _ _ _) | refine .trans ?_ (State.takePlan_queued _ _))) <;> simp [LineInterface.Queued.refl]

theorem State.takeCancel_queued (tag : VanTag) (serial : Nat) : s.li.Queued (State.takeCancel tag serial s).li := by
  simp only [State.takeCancel]
  (repeat' split) <;> first | (refine .trans ?_ (State.queueReport_queued _ _ _ _); simp [LineInterface.Queued.refl]) | simp [LineInterface.Queued.refl]

theorem State.adoptDefault_queued : s.li.Queued (s.adoptDefault).li := by
  simp only [State.adoptDefault]
  refine .trans ?_ (State.buildOrAwait_queued _)
  refine .trans ?_ (State.queueReport_queued _ _ _ _)
  simp [LineInterface.Queued.refl]

theorem State.atRiskNotice_queued (forecast : Nat) : s.li.Queued (State.atRiskNotice forecast s).li := by
  simp only [State.atRiskNotice]
  refine .trans ?_ (State.queueReport_queued _ _ _ _)
  simp [LineInterface.Queued.refl]

theorem State.moveClock_queued (next : DepotClock) : s.li.Queued (State.moveClock next s).li := by
  simp only [State.moveClock]
  (repeat' split) <;> first | (refine .trans ?_ (State.minuteRoll_queued _ _); simp [LineInterface.Queued.refl]) | simp [LineInterface.Queued.refl]

theorem State.adoptTime_queued (t : Nat) (source : ClockSource) (age : Nat) : s.li.Queued (State.adoptTime t source age s).li := by
  simp only [State.adoptTime]
  refine .trans ?_ (State.moveClock_queued _ _)
  simp [LineInterface.Queued.refl]

theorem State.offerAnchor_queued (t : Nat) : s.li.Queued (State.offerAnchor t s).li := by
  simp only [State.offerAnchor]
  (repeat' split) <;> first | (refine .trans ?_ (State.adoptTime_queued _ _ _ _); simp [LineInterface.Queued.refl]) | simp [LineInterface.Queued.refl]

theorem State.offerPeerTime_queued (t : Nat) : s.li.Queued (State.offerPeerTime t s).li := by
  simp only [State.offerPeerTime]
  (repeat' split) <;> first | (refine .trans ?_ (State.adoptTime_queued _ _ _ _); simp [LineInterface.Queued.refl]) | simp [LineInterface.Queued.refl]

theorem State.idConflict_queued : s.li.Queued (s.idConflict).li := by
  simp only [State.idConflict]
  (repeat' split) <;> first | (refine .trans ?_ (State.queueReport_queued _ _ _ _); simp [LineInterface.Queued.refl]) | simp [LineInterface.Queued.refl]

theorem State.viewClaim_queued (c : RxClaim) : s.li.Queued (State.viewClaim c s).li := by
  simp only [State.viewClaim]
  (repeat' split) <;> first | (refine .trans ?_ (State.idConflict_queued _); simp [LineInterface.Queued.refl]) | simp [LineInterface.Queued.refl]

theorem State.expiryAnnounce_queued (contents : ClaimContents) (turnedOn : Bool) : s.li.Queued (State.expiryAnnounce contents turnedOn s).li := by
  simp only [State.expiryAnnounce]
  split
  · exact .trans (State.enqueue_queued _ _) (State.atRiskNotice_queued _ _)
  · exact State.enqueue_queued _ _

theorem State.claimPeriod_queued : s.li.Queued (s.claimPeriod).li := by
  simp only [State.claimPeriod]
  refine .trans ?_ (State.expiryAnnounce_queued _ _ _)
  simp [LineInterface.Queued.refl]

theorem State.handSite_queued (f : RxSite) : s.li.Queued (State.handSite f s).li := by
  simp only [State.handSite]
  (repeat' split) <;> (refine .trans ?_ (State.offerAnchor_queued _ _); simp [LineInterface.Queued.refl])

theorem State.enterLost_queued : s.li.Queued (s.enterLost).li := by
  simp only [State.enterLost]
  refine .trans ?_ (State.queueReport_queued _ _ _ _)
  simp [LineInterface.Queued.refl]

theorem State.resetMissed_queued : s.li.Queued (s.resetMissed).li := by
  simp only [State.resetMissed]
  (repeat' split) <;> first | (refine .trans ?_ (State.enterLost_queued _); simp [LineInterface.Queued.refl]) | simp [LineInterface.Queued.refl]

theorem State.requestFailed_queued (c : LinkCommand) : s.li.Queued (State.requestFailed c s).li := by
  simp only [State.requestFailed]
  (repeat' split) <;> first | (refine .trans ?_ (State.enterLost_queued _); simp [LineInterface.Queued.refl]) | simp [LineInterface.Queued.refl]

theorem State.identFailed_queued : s.li.Queued (s.identFailed).li := by
  simp only [State.identFailed]
  (repeat' split) <;> first | (refine .trans ?_ (State.enterLost_queued _); simp [LineInterface.Queued.refl]) | simp [LineInterface.Queued.refl]

theorem State.identValid_queued (v : VanIdentity) : s.li.Queued (State.identValid v s).li := by
  simp only [State.identValid]
  refine .trans ?_ (State.vanIdentified_queued _ _ _)
  simp [LineInterface.Queued.refl]

theorem State.recovered_queued (v : VanIdentity) : s.li.Queued (State.recovered v s).li := by
  simp only [State.recovered]
  (repeat' split) <;> first | (refine .trans ?_ (State.differentVan_queued _ _ _); simp [LineInterface.Queued.refl]) | simp [LineInterface.Queued.refl]

theorem State.statusValid_queued (st : LinkStatus) : s.li.Queued (State.statusValid st s).li := by
  simp only [State.statusValid]
  refine .trans ?_ (State.takeStatus_queued _ _ _)
  simp [LineInterface.Queued.refl]

end Sys2Proof.Machine
end

