-- ==== Sys2Proof/Laws/LineInterface.lean ====
section
/-! SUPPORT. The levels the part drives, and the Line Interface's invariant in parts: what queueing, the ends of an attempt, received bytes
and accepted frames keep (R1, R9 to R23). -/

namespace Sys2Proof.Machine

/-- The parts of `State.lineOk` that are the Line Interface's own. -/
def LineInterface.sound (li : LineInterface) : Prop := li.queueOk ∧ li.countsOk ∧ li.bufferOk ∧ li.outputOk

theorem LineInterface.reset_sound : LineInterface.sound LineInterface.reset := by
  unfold LineInterface.sound LineInterface.queueOk LineInterface.countsOk LineInterface.bufferOk LineInterface.outputOk
  simp [LineInterface.reset]

/-! ## The levels the part drives (R1) -/

@[simp] theorem lineLevels_length (b : Byte) : (lineLevels b).length = 10 := by simp [lineLevels, dataBits]

@[simp] theorem frameLevels_nil : frameLevels [] = [] := rfl

@[simp] theorem frameLevels_cons (b : Byte) (bs : List Byte) : frameLevels (b :: bs) = lineLevels b ++ frameLevels bs := rfl

/-- A frame of n bytes takes 10 n bit times without a break. -/
theorem frameLevels_length (bytes : List Byte) : (frameLevels bytes).length = 10 * bytes.length := by
  induction bytes with
  | nil => rfl
  | cons b bs ih => simp only [frameLevels_cons, List.length_append, lineLevels_length, ih, List.length_cons]; omega

/-- The recessive bit times a frame ends with are those of its last byte, whose start bit is dominant (log 5). -/
theorem recessiveRun_frameLevels (bytes : List Byte) (last : Byte) : recessiveRun (frameLevels (bytes ++ [last])) = recessiveTail last := by
  have h : frameLevels (bytes ++ [last]) = frameLevels bytes ++ lineLevels last := by simp [frameLevels]
  simp only [recessiveTail, recessiveRun, h, List.reverse_append, List.takeWhile_append]
  have hne : ((lineLevels last).reverse.takeWhile id).length ≠ (lineLevels last).reverse.length := by
    intro hl
    have hall := List.takeWhile_eq_self_iff.mp (List.IsPrefix.eq_of_length (List.takeWhile_prefix _) hl)
    exact absurd (hall false (by simp [lineLevels])) (by simp)
  rw [if_neg hne]

/-- What an attempt with a frame drives depends on the frame, the station id and what a DIAG reports, and on nothing else of the part. -/
theorem ownFrameBytes_congr {s t : State} (f : OwnFrame) (hsl : t.sl = s.sl) (hps : t.ps = s.ps) (hsc : t.sc = s.sc) (hpv : t.pv = s.pv)
    (hv : t.li.validCount = s.li.validCount) (hd : t.li.discardCount = s.li.discardCount) (he : t.li.errors = s.li.errors)
    (hs : t.li.stuckSeen = s.li.stuckSeen) : ownFrameBytes t f = ownFrameBytes s f := by
  cases f <;> simp only [ownFrameBytes, diagPayload, stateFlagBits, hsl, hps, hsc, hpv, hv, hd, he, hs]

/-! ## The invariant in parts -/

/-- Queueing keeps the Line Interface in order. -/
theorem LineInterface.queued_sound {a b : LineInterface} (h : a.Queued b) (ha : LineInterface.sound a) : LineInterface.sound b := by
  obtain ⟨h1, h2, ⟨h3, h4⟩, h5⟩ := ha
  have hr := h.rest
  refine ⟨h.queueOk h1, ?_, ?_, h.outputOk h5⟩
  · unfold LineInterface.countsOk at *; rw [hr.2.2.1, hr.2.2.2.1]; exact h2
  · unfold LineInterface.bufferOk at *; rw [hr.2.1]
    refine ⟨?_, h4⟩
    intro hl; apply h3; rcases hr.2.2.2.2.2.2.2 with h | h
    · rw [← h]; exact hl
    · rw [h.1]; decide

/-- A Line Interface that is not sending, with an empty receive buffer, is in order with any queue in order that has no frame on the line. -/
theorem LineInterface.quiet_sound (r v d : Nat) (e : ErrorFlags) (st ss : Bool) (o : LineOutput) (n : Nat) (q : List QueueEntry)
   (hv : v ≤ 65535) (hd : d ≤ 255) (hq : queueListOk q) (h0 : q.countP QueueEntry.onLine = 0) (l : LineState) (hl : l ≠ .sending)
   (ho : o = .recessive) : LineInterface.sound ⟨l, r, [], q, v, d, e, st, ss, o, n⟩ := by
  refine ⟨(LineInterface.queueOk_iff _).mpr ⟨hq, by simp [hl, h0], by simp [hl]⟩, ⟨hv, hd⟩, ?_, ?_⟩
  · simp [LineInterface.bufferOk]
  · simp [LineInterface.outputOk, hl, ho]

/-- Outside SENDING the line is left recessive (R1). -/
theorem LineInterface.sound_released {li : LineInterface} (h : LineInterface.sound li) (hl : li.line ≠ .sending) : li.output = .recessive :=
  h.2.2.2.mpr hl

theorem raiseTo_le (t n : Nat) (h : n ≤ t) : raiseTo t n ≤ t := by unfold raiseTo; split <;> omega

theorem LineInterface.sound_notSending {li : LineInterface} (h : LineInterface.sound li) (hl : li.line ≠ .sending) : li.queue.countP QueueEntry.onLine = 0 := by
  have := ((LineInterface.queueOk_iff _).mp h.1).2.1; simpa [hl] using this

/-- R17. -/
theorem offLine_queueListOk (q : List QueueEntry) (h : queueListOk q) : queueListOk (q.map QueueEntry.offLine) ∧ (q.map QueueEntry.offLine).countP QueueEntry.onLine = 0 := by
  obtain ⟨h1,h2,h3,h4,h5⟩ := h
  refine ⟨⟨by simpa using h1, ?_, ?_, ?_, ?_⟩, ?_⟩
  · rw [List.pairwise_map]; simpa [QueueEntry.offLine] using h2
  · rw [countP_map_eq (g := QueueEntry.offLine) (p := QueueEntry.isClaim) (fun e => rfl)]; exact h3
  · rw [countP_map_eq (g := QueueEntry.offLine) (p := QueueEntry.isDiag) (fun e => rfl)]; exact h4
  · intro e he; obtain ⟨x, hx, rfl⟩ := List.mem_map.mp he
    exact ⟨(h5 x hx).1, by simp [QueueEntry.offLine]⟩
  · rw [List.countP_map, List.countP_eq_zero]; simp [QueueEntry.offLine]

/-- Dropping entries and changing only retry counts and marks keeps the queue's order and bounds. -/
theorem filterMap_queueListOk (g : QueueEntry → Option QueueEntry) (hg : ∀ e e', g e = some e' → e.retries ≤ 2 → e'.frame = e.frame ∧ e'.retries ≤ 2 ∧ e'.onLine = false ∧ (e'.replaced = true → e.onLine = false ∧ e.replaced = true))
   (q : List QueueEntry) (h : queueListOk q) : queueListOk (q.filterMap g) ∧ (q.filterMap g).countP QueueEntry.onLine = 0 := by
  obtain ⟨h1,h2,h3,h4,h5⟩ := h
  have key : ∀ e ∈ q.filterMap g, ∃ x ∈ q, e.frame = x.frame ∧ e.retries ≤ 2 ∧ e.onLine = false ∧ (e.replaced = true → x.onLine = false ∧ x.replaced = true) := by
    intro e he
    obtain ⟨x, hx, hxe⟩ := List.mem_filterMap.mp he
    exact ⟨x, hx, hg x e hxe (h5 x hx).1⟩
  have cnt : ∀ p : OwnFrame → Bool, (q.filterMap g).countP (fun e => p e.frame) ≤ q.countP (fun e => p e.frame) := by
    intro p
    clear h1 h2 h3 h4 key
    induction q with
    | nil => simp
    | cons x xs ih =>
      have := ih (fun e he => h5 e (by simp [he]))
      rw [List.filterMap_cons]
      cases hx : g x with
      | none => simp only [List.countP_cons]; omega
      | some y => 
        have hy := (hg x y hx (h5 x (by simp)).1).1
        simp only [List.countP_cons, hy]; omega
  refine ⟨⟨(List.length_filterMap_le _ _).trans h1, ?_, (cnt (fun f => match f with | .claim _ => true | _ => false)).trans h3, (cnt (fun f => match f with | .diag => true | _ => false)).trans h4, ?_⟩, ?_⟩
  · rw [List.pairwise_filterMap]
    clear cnt key h1 h3 h4
    refine List.Pairwise.imp_of_mem ?_ h2
    intro a b ha hb hab x hx y hy
    rw [(hg a x hx (h5 a ha).1).1, (hg b y hy (h5 b hb).1).1]; exact hab
  · intro e he; obtain ⟨x, hx, _, h2, h3, h4⟩ := key e he
    refine ⟨h2, fun h => ?_⟩
    have := (h5 x hx).2 (h4 h).2
    rw [(h4 h).1] at this; simp at this
  · rw [List.countP_eq_zero]; intro e he; obtain ⟨x, hx, _, _, h3, _⟩ := key e he; simp [h3]

/-- R18. -/
theorem mismatchEntry_queueListOk (q : List QueueEntry) (h : queueListOk q) : queueListOk (q.filterMap mismatchEntry) ∧ (q.filterMap mismatchEntry).countP QueueEntry.onLine = 0 := by
  apply filterMap_queueListOk _ _ q h
  intro e e' he hr
  unfold mismatchEntry at he
  split at he
  · split at he
    · simp at he
    · simp at he; subst he; simp [QueueEntry.offLine]; omega
  · rename_i ho; simp at he; subst he; simp at ho; simp [ho]; exact hr

/-- R19, R21, R22. -/
theorem sentWholeEntry_queueListOk (q : List QueueEntry) (h : queueListOk q) : queueListOk (q.filterMap sentWholeEntry) ∧ (q.filterMap sentWholeEntry).countP QueueEntry.onLine = 0 := by
  apply filterMap_queueListOk _ _ q h
  intro e e' he hr
  unfold sentWholeEntry at he
  split at he
  · split at he
    · simp at he; subst he; simp [QueueEntry.offLine]; omega
    · simp at he
  · rename_i ho; simp at he; subst he; simp at ho; simp [ho]; exact hr

theorem State.li_sound (s : State) (h : LineInterface.sound s.li) : queueListOk s.li.queue ∧ s.li.validCount ≤ 65535 ∧ s.li.discardCount ≤ 255 := 
  ⟨((LineInterface.queueOk_iff _).mp h.1).1, h.2.1.1, h.2.1.2⟩

theorem State.lineIs_eq {l : LineState} {s : State} (h : s.lineIs l = true) : s.li.line = l := by
  unfold State.lineIs at h; simp at h; exact h.2

theorem State.acceptFrame_sound (check : Byte) (s : State) (h : LineInterface.sound s.li) (hl : s.li.line = .receiving) : LineInterface.sound (s.acceptFrame check).li := by
  obtain ⟨a,b,c⟩ := State.li_sound s h
  simp only [State.acceptFrame, State.withLi_li]
  exact LineInterface.quiet_sound _ _ _ _ _ _ _ _ _ (raiseTo_le _ _ b) c a (LineInterface.sound_notSending h (by simp [hl])) .gap (by simp)
    (show s.li.output = _ from LineInterface.sound_released h (by simp [hl]))

theorem State.accepts_line {k : Nat} {c : Byte} {s : State} (h : s.accepts k c = true) : s.li.line = .receiving := by
  unfold State.accepts at h; simp at h; exact State.lineIs_eq h.1

/-- A byte that is kept leaves a buffer that has passed R9 and R11. -/
theorem keepsByte_buffer (buf : List Byte) (b : Byte) (h1 : (1 ≤ buf.length → validSender (frameSender buf) = true))
   (h2 : (3 ≤ buf.length → lengthFits (frameKind buf) (frameLength buf) = true ∧ buf.length ≤ 3 + frameLength buf)) (hk : keepsByte buf b = true) :
   (1 ≤ (buf ++ [b]).length → validSender (frameSender (buf ++ [b])) = true) ∧ (3 ≤ (buf ++ [b]).length → lengthFits (frameKind (buf++[b])) (frameLength (buf++[b])) = true ∧ (buf++[b]).length ≤ 3 + frameLength (buf++[b])) := by
  match buf, h1, h2, hk with
  | [], _, _, hk => simpa [keepsByte, frameSender, frameHeader, byteAt] using hk
  | [x], h1, _, hk => simpa [keepsByte, frameSender, frameHeader, byteAt] using h1
  | [x, y], h1, _, hk => 
     refine ⟨by simpa [keepsByte, frameSender, frameHeader, byteAt] using h1, ?_⟩
     simpa [keepsByte, frameKind, frameLength, byteAt] using hk
  | x :: y :: z :: rest, h1, h2, hk =>
     refine ⟨by simpa [frameSender, frameHeader, byteAt] using h1, ?_⟩
     simp [keepsByte, awaitsCheck] at hk
     simp [frameKind, frameLength, byteAt] at h2 hk ⊢
     refine ⟨h2.1, ?_⟩
     omega

theorem State.trySend_sound (s : State) (h : LineInterface.sound s.li) : LineInterface.sound s.trySend.li := LineInterface.queued_sound s.trySend_queued h
theorem State.enqueue_sound (f) (s : State) (h : LineInterface.sound s.li) : LineInterface.sound (s.enqueue f).li := LineInterface.queued_sound (s.enqueue_queued f) h

theorem State.quiet_sound {s : State} (r v d : Nat) (e : ErrorFlags) (st ss : Bool) (n : Nat) (l : LineState) (hl : l ≠ .sending)
   (h : LineInterface.sound s.li) (hn : s.li.line ≠ .sending) (hv : v ≤ 65535) (hd : d ≤ 255) :
   LineInterface.sound ⟨l, r, [], s.li.queue, v, d, e, st, ss, s.li.output, n⟩ :=
  LineInterface.quiet_sound _ _ _ _ _ _ _ _ _ hv hd (State.li_sound s h).1 (LineInterface.sound_notSending h hn) l hl
    (LineInterface.sound_released h hn)

end Sys2Proof.Machine
end

