-- ==== Sys2Proof/Laws/Link.lean ====
section
/-! SUPPORT. The replies of the van as sent and read (R115, R116), and the Plug Link's invariant: what placing requests and beginning an exchange keep (R111,
R118, R125, R126). -/

namespace Sys2Proof.Machine

/-! ## The replies of the van (R115, R116) -/

/-- A reply of a status alone is read as it was sent. -/
theorem LinkReply.short_spec (status : Byte) (stop : Bool) :
    LinkReply.status ⟨writeSlots [status] ++ [stop]⟩ = status ∧ LinkReply.stopSlot ⟨writeSlots [status] ++ [stop]⟩ = stop := by
  simp [LinkReply.status, LinkReply.stopSlot, List.getLastD_eq_getLast?]

/-- A reply with data and a check byte is read as it was sent. -/
theorem LinkReply.long_spec (status : Byte) (data : List Byte) (check : Byte) (stop : Bool) (r : LinkReply)
    (h : r.slots = writeSlots (status :: (data ++ [check])) ++ [stop]) :
    r.status = status ∧ r.data = data ∧ r.check = check ∧ r.stopSlot = stop := by
  have cut : writeSlots (status :: (data ++ [check])) ++ [stop]
      = dataBits status ++ (writeSlots data ++ (dataBits check ++ [stop])) := by
    simp [writeSlots, List.flatMap_append]
  have count : (dataBits status ++ (writeSlots data ++ (dataBits check ++ [stop]))).length = 8 * data.length + 17 := by
    simp only [List.length_append, dataBits_length, writeSlots_length, List.length_cons, List.length_nil]; omega
  rw [cut] at h
  refine ⟨?_, ?_, ?_, ?_⟩
  · rw [LinkReply.status, h, slotByte_dataBits]
  · rw [LinkReply.data, h, count, List.drop_left' (dataBits_length status), show (8 * data.length + 17 - 17) / 8 = data.length by omega,
      slotBytes_writeSlots]
  · rw [LinkReply.check, h, count, ← List.append_assoc, List.drop_left' (by simp; omega), slotByte_dataBits]
  · rw [LinkReply.stopSlot, h]; simp [List.getLastD_eq_getLast?]

/-! ## The Plug Link's invariant -/

/-- Placing requests changes no more than the request set, and nothing in UNPLUGGED (R125). -/
theorem PlugLink.Asked.spec {a b : PlugLink} (h : PlugLink.Asked a b) :
    b = { a with wantStatus := b.wantStatus, wantHeater := b.wantHeater } ∧ (a.link = .unplugged → b = a) := by
  induction h with
  | refl => exact ⟨rfl, fun _ => rfl⟩
  | @status b _ ih =>
    obtain ⟨ih1, ih2⟩ := ih
    unfold PlugLink.placeStatus
    split
    · exact ⟨ih1, ih2⟩
    · rename_i hn
      refine ⟨by rw [ih1], fun hu => absurd ?_ hn⟩
      rw [ih2 hu]; exact Or.inl hu
  | @heater b _ x ih =>
    obtain ⟨ih1, ih2⟩ := ih
    unfold PlugLink.placeHeater
    split
    · exact ⟨ih1, ih2⟩
    · rename_i hn
      refine ⟨by rw [ih1], fun hu => absurd ?_ hn⟩
      rw [ih2 hu]; exact hu

/-- The link's invariant but for an exchange that is due (R126). -/
def PlugLink.linkDue (pl : PlugLink) : Prop :=
  (pl.link = .unplugged ↔ pl.plugClosed = false)
    ∧ exchangeFits pl.link pl.exchange
    ∧ (pl.link = .unplugged → pl.wantStatus = false ∧ pl.wantHeater = none ∧ pl.identity = none ∧ pl.status = none ∧ pl.heaterWanted = none)
    ∧ (pl.link.working = false → pl.accept = 0)
    ∧ (pl.link.working = true → pl.identity.isSome = true)
    ∧ (pl.pollTimer.isRunning = pl.link.working)
    ∧ (pl.recoveryTimer.isRunning = decide (pl.link = .lost))
    ∧ (pl.link = .resetting ↔ pl.resetWait.isRunning = true ∨ (pl.resetOnLine = true ∧ pl.link ≠ .lost))
    ∧ (pl.resetOnLine = true → pl.exchange = none ∧ pl.resetWait.isRunning = false)
    ∧ (pl.pause.isRunning = true → pl.link = .ready)
    ∧ (pl.busyWait.isRunning = true → pl.exchange.isSome = true)
    ∧ (∀ x, pl.exchange = some x → x.busy ≤ 8 ∧ x.bad ≤ 2)
    ∧ pl.failures ≤ 3 ∧ pl.misses ≤ 6
    ∧ (pl.link ≠ .lost → pl.failures ≤ 2)
    ∧ (pl.link = .resetting → pl.misses ≤ 5)

/-- No exchange is due: an idle READY link has an empty request set (R126). -/
def PlugLink.noneDue (pl : PlugLink) : Prop :=
  pl.link = .ready → pl.pause.isRunning = false → pl.wantStatus = false ∧ pl.wantHeater = none

theorem PlugLink.linkOk_iff {pl : PlugLink} : pl.linkOk ↔ pl.linkDue ∧ pl.noneDue := by
  constructor
  · rintro ⟨h1, h2, h3, h4⟩; exact ⟨⟨h1, h2, h4⟩, h3⟩
  · rintro ⟨⟨h1, h2, h4⟩, h3⟩; exact ⟨h1, h2, h3, h4⟩

theorem PlugLink.Asked.linkDue {a b : PlugLink} (h : PlugLink.Asked a b) (ha : a.linkDue) : b.linkDue := by
  obtain ⟨h1, h2⟩ := h.spec
  by_cases hu : a.link = .unplugged
  · rw [h2 hu]; exact ha
  · rw [h1]
    obtain ⟨k1, k2, k3, k4⟩ := ha
    exact ⟨k1, k2, fun k => absurd k hu, k4⟩

theorem PlugLink.Asked.settleOk {a b : PlugLink} (h : PlugLink.Asked a b) (ha : a.settleOk) : b.settleOk := by
  rw [h.spec.1]; exact ha

theorem PlugLink.Asked.link {a b : PlugLink} (h : PlugLink.Asked a b) : b.link = a.link := by rw [h.spec.1]
theorem PlugLink.Asked.plugClosed {a b : PlugLink} (h : PlugLink.Asked a b) : b.plugClosed = a.plugClosed := by rw [h.spec.1]
theorem PlugLink.Asked.accept {a b : PlugLink} (h : PlugLink.Asked a b) : b.accept = a.accept := by rw [h.spec.1]
theorem PlugLink.Asked.contact {a b : PlugLink} (h : PlugLink.Asked a b) : b.contact = a.contact := by rw [h.spec.1]
theorem PlugLink.Asked.identity {a b : PlugLink} (h : PlugLink.Asked a b) : b.identity = a.identity := by rw [h.spec.1]
theorem PlugLink.Asked.status_eq {a b : PlugLink} (h : PlugLink.Asked a b) : b.status = a.status := by rw [h.spec.1]

/-- Beginning an exchange leaves none due (R126). -/
theorem PlugLink.beginExchange_linkOk {pl : PlugLink} (h : pl.linkDue) : pl.beginExchange.linkOk := by
  obtain ⟨h1, h2, h3, h4, h5, h6, h7, h8, h9, h10, h11, h12, h13, h14, h15, h16⟩ := h
  rw [PlugLink.linkOk_iff]
  unfold PlugLink.beginExchange
  split
  · rename_i hr
    obtain ⟨hr, hp⟩ := hr
    have hx : pl.exchange = none := by simpa [exchangeFits, hr] using h2
    split
    · simp_all [PlugLink.linkDue, PlugLink.noneDue, PlugLink.writeCommand, exchangeFits, LinkState.working]
    · split
      · simp_all [PlugLink.linkDue, PlugLink.noneDue, PlugLink.writeCommand, exchangeFits, LinkState.working]
      · refine ⟨⟨h1, h2, h3, h4, h5, h6, h7, h8, h9, h10, h11, h12, h13, h14, h15, h16⟩, fun _ _ => ?_⟩
        simp_all
  · rename_i hr
    exact ⟨⟨h1, h2, h3, h4, h5, h6, h7, h8, h9, h10, h11, h12, h13, h14, h15, h16⟩, fun a b => absurd ⟨a, b⟩ hr⟩

/-- Beginning an exchange leaves plug detect, the accept power and the identity as they are. -/
theorem PlugLink.beginExchange_spec (pl : PlugLink) :
    pl.beginExchange.plugClosed = pl.plugClosed ∧ pl.beginExchange.settle = pl.settle ∧ pl.beginExchange.contact = pl.contact
      ∧ pl.beginExchange.accept = pl.accept ∧ pl.beginExchange.identity = pl.identity
      ∧ pl.beginExchange.link.working = pl.link.working
      ∧ (pl.beginExchange.link = .lost ↔ pl.link = .lost) := by
  unfold PlugLink.beginExchange
  (repeat' split) <;> simp_all [PlugLink.writeCommand, LinkState.working]

theorem PlugLink.beginExchange_settleOk {pl : PlugLink} (h : pl.settleOk) : pl.beginExchange.settleOk := by
  obtain ⟨h1, h2, h3, -⟩ := pl.beginExchange_spec
  unfold PlugLink.settleOk; rw [h1, h2, h3]; exact h

end Sys2Proof.Machine
end

