-- ==== Sys2Proof/Laws/PerInstr.lean ====
section
/-! SUPPORT. The family of statements made per command: every command stands for a row of spec/opcode_table.json. -/

namespace Sys2Proof.Laws

/-- The mnemonics of spec/opcode_table.json, in the order of its rows. -/
def tableMnemonics : List String :=
  ["POWER_UP", "BROWN_OUT", "IMAGE_READ_COMPLETE", "FRAME_GAP_COMPLETE", "JOIN_FOREIGN_START", "ARBITRATION_LOSS",
   "TRANSMIT_MISMATCH", "FRAME_SENT_WHOLE", "DIAG_SENT_WHOLE", "LINE_CLEAR", "LINE_STUCK", "LINE_STUCK_RELEASE", "OPENING_FAILURE",
   "MISSING_STOP_BIT", "TRUNCATION", "LENGTH_FAILURE", "CHECK_FAILURE", "UNEXPECTED_FRAME", "CLAIM_RECEIVED", "SITE_RECEIVED",
   "PLAN_RECEIVED", "CANCEL_RECEIVED", "DIAG_ASK_RECEIVED", "OTHER_REPORT_RECEIVED", "OSCILLATOR_SECOND", "ANCHOR_LAPSE",
   "CONFLICT_REPORT_GUARD_EXPIRY", "TALLY_EXPIRY", "CLAIM_PERIOD_EXPIRY", "DEFAULT_PLAN_TIMER_EXPIRY", "ENERGY_PULSE",
   "PLUG_CONTACT_CHANGE", "PLUG_CLOSED", "PLUG_OPEN", "LINK_RESET_RESULT", "RESET_RETRY_WAIT_EXPIRY", "IDENT_REPLY", "STATUS_REPLY",
   "HEATER_REPLY", "BUSY_REPOLL_WAIT_EXPIRY", "SERVICE_PAUSE_END", "RECOVERY_TIMER_EXPIRY", "POLL_TIMER_EXPIRY", "SENSE_READS_CLOSED",
   "SENSE_READS_OPEN", "CLOSE_SENSE_TIMER_EXPIRY", "OPEN_SENSE_TIMER_EXPIRY", "RETRY_WAIT_EXPIRY", "DRAW_WAIT_EXPIRY", "DRAW_UPDATE",
   "METER_LOST", "BYTE_TAKEN", "DOMINANT_LEVEL_IN_GAP"]

/-- The command stands for a row of the table, whatever its operands. -/
def TableRow.Statement (i : Instr) : Prop := i.mnemonic ∈ tableMnemonics

/-- Every command has its row. -/
theorem TableRow.every (i : Instr) : TableRow.Statement i := by
  cases i <;> simp [TableRow.Statement, Instr.mnemonic, tableMnemonics]

theorem TableRow.powerUp (senseClosed : Bool) : TableRow.Statement (.powerUp senseClosed) :=
  TableRow.every _
theorem TableRow.brownOut (senseClosed : Bool) : TableRow.Statement (.brownOut senseClosed) :=
  TableRow.every _
theorem TableRow.imageReadComplete (bits : List Bool) (contactClosed : Bool) : TableRow.Statement (.imageReadComplete bits contactClosed) :=
  TableRow.every _
theorem TableRow.frameGapComplete : TableRow.Statement .frameGapComplete :=
  TableRow.every _
theorem TableRow.joinForeignStart : TableRow.Statement .joinForeignStart :=
  TableRow.every _
theorem TableRow.arbitrationLoss : TableRow.Statement .arbitrationLoss :=
  TableRow.every _
theorem TableRow.transmitMismatch : TableRow.Statement .transmitMismatch :=
  TableRow.every _
theorem TableRow.frameSentWhole : TableRow.Statement .frameSentWhole :=
  TableRow.every _
theorem TableRow.diagSentWhole : TableRow.Statement .diagSentWhole :=
  TableRow.every _
theorem TableRow.lineClear : TableRow.Statement .lineClear :=
  TableRow.every _
theorem TableRow.lineStuck : TableRow.Statement .lineStuck :=
  TableRow.every _
theorem TableRow.lineStuckRelease : TableRow.Statement .lineStuckRelease :=
  TableRow.every _
theorem TableRow.openingFailure (failure : HeaderFailure) : TableRow.Statement (.openingFailure failure) :=
  TableRow.every _
theorem TableRow.missingStopBit : TableRow.Statement .missingStopBit :=
  TableRow.every _
theorem TableRow.truncation : TableRow.Statement .truncation :=
  TableRow.every _
theorem TableRow.lengthFailure (length : Byte) : TableRow.Statement (.lengthFailure length) :=
  TableRow.every _
theorem TableRow.checkFailure (check : Byte) : TableRow.Statement (.checkFailure check) :=
  TableRow.every _
theorem TableRow.unexpectedFrame (check : Byte) : TableRow.Statement (.unexpectedFrame check) :=
  TableRow.every _
theorem TableRow.claimReceived (check : Byte) : TableRow.Statement (.claimReceived check) :=
  TableRow.every _
theorem TableRow.siteReceived (check : Byte) : TableRow.Statement (.siteReceived check) :=
  TableRow.every _
theorem TableRow.planReceived (check : Byte) : TableRow.Statement (.planReceived check) :=
  TableRow.every _
theorem TableRow.cancelReceived (check : Byte) : TableRow.Statement (.cancelReceived check) :=
  TableRow.every _
theorem TableRow.diagAskReceived (check : Byte) : TableRow.Statement (.diagAskReceived check) :=
  TableRow.every _
theorem TableRow.otherReportReceived (check : Byte) : TableRow.Statement (.otherReportReceived check) :=
  TableRow.every _
theorem TableRow.oscillatorSecond : TableRow.Statement .oscillatorSecond :=
  TableRow.every _
theorem TableRow.anchorLapse : TableRow.Statement .anchorLapse :=
  TableRow.every _
theorem TableRow.conflictReportGuardExpiry : TableRow.Statement .conflictReportGuardExpiry :=
  TableRow.every _
theorem TableRow.tallyExpiry : TableRow.Statement .tallyExpiry :=
  TableRow.every _
theorem TableRow.claimPeriodExpiry : TableRow.Statement .claimPeriodExpiry :=
  TableRow.every _
theorem TableRow.defaultPlanTimerExpiry : TableRow.Statement .defaultPlanTimerExpiry :=
  TableRow.every _
theorem TableRow.energyPulse : TableRow.Statement .energyPulse :=
  TableRow.every _
theorem TableRow.plugContactChange (closed : Bool) : TableRow.Statement (.plugContactChange closed) :=
  TableRow.every _
theorem TableRow.plugClosed : TableRow.Statement .plugClosed :=
  TableRow.every _
theorem TableRow.plugOpen : TableRow.Statement .plugOpen :=
  TableRow.every _
theorem TableRow.linkResetResult (fellAt : Option Nat) (highAgain : Bool) : TableRow.Statement (.linkResetResult fellAt highAgain) :=
  TableRow.every _
theorem TableRow.resetRetryWaitExpiry : TableRow.Statement .resetRetryWaitExpiry :=
  TableRow.every _
theorem TableRow.identReply (reply : LinkReply) : TableRow.Statement (.identReply reply) :=
  TableRow.every _
theorem TableRow.statusReply (reply : LinkReply) : TableRow.Statement (.statusReply reply) :=
  TableRow.every _
theorem TableRow.heaterReply (reply : LinkReply) : TableRow.Statement (.heaterReply reply) :=
  TableRow.every _
theorem TableRow.busyRepollWaitExpiry : TableRow.Statement .busyRepollWaitExpiry :=
  TableRow.every _
theorem TableRow.servicePauseEnd : TableRow.Statement .servicePauseEnd :=
  TableRow.every _
theorem TableRow.recoveryTimerExpiry : TableRow.Statement .recoveryTimerExpiry :=
  TableRow.every _
theorem TableRow.pollTimerExpiry : TableRow.Statement .pollTimerExpiry :=
  TableRow.every _
theorem TableRow.senseReadsClosed : TableRow.Statement .senseReadsClosed :=
  TableRow.every _
theorem TableRow.senseReadsOpen : TableRow.Statement .senseReadsOpen :=
  TableRow.every _
theorem TableRow.closeSenseTimerExpiry : TableRow.Statement .closeSenseTimerExpiry :=
  TableRow.every _
theorem TableRow.openSenseTimerExpiry : TableRow.Statement .openSenseTimerExpiry :=
  TableRow.every _
theorem TableRow.retryWaitExpiry : TableRow.Statement .retryWaitExpiry :=
  TableRow.every _
theorem TableRow.drawWaitExpiry : TableRow.Statement .drawWaitExpiry :=
  TableRow.every _
theorem TableRow.drawUpdate (power : Nat) : TableRow.Statement (.drawUpdate power) :=
  TableRow.every _
theorem TableRow.meterLost : TableRow.Statement .meterLost :=
  TableRow.every _
theorem TableRow.byteTaken (byte : Byte) : TableRow.Statement (.byteTaken byte) :=
  TableRow.every _
theorem TableRow.dominantLevelInGap : TableRow.Statement .dominantLevelInGap :=
  TableRow.every _

end Sys2Proof.Laws
end

