-- ==== Sys2Proof/Laws/Share.lean ====
section
/-! SUPPORT. The share arithmetic: the own claim's ranges (R56 to R58), and what the two sharing cases can answer (R64 to R67). -/

namespace Sys2Proof.Machine

/-! ## The own claim -/

/-- The own ceiling is 0, or from P_min to P_bay (R56). -/
theorem ownCeiling_spec (c : Settings) (st : ProgState) (accept stepCeiling : Nat) (a : PolicyAnswer) :
    ownCeiling c st accept stepCeiling a = 0
      ∨ (st = .running ∧ c.pMin ≤ ownCeiling c st accept stepCeiling a ∧ ownCeiling c st accept stepCeiling a ≤ c.pBay
        ∧ ownCeiling c st accept stepCeiling a ≤ accept ∧ ownCeiling c st accept stepCeiling a ≤ stepCeiling) := by
  unfold ownCeiling
  split
  · exact Or.inl rfl
  · rename_i h
    generalize (if a.permit then a.term else 0) = x
    by_cases hx : min (min c.pBay accept) (min stepCeiling x) < c.pMin
    · exact Or.inl (if_pos hx)
    · simp only [if_neg hx]
      exact Or.inr ⟨not_not.mp h, by omega, by omega, by omega, by omega⟩

/-- A claimant's claim has its ceiling, a floor from P_min to it and an urgency up to 1000; a non-claimant's has none (R58). -/
theorem ownClaimOf_spec (c : Settings) (sc : ShareComputer) (set : Bool) (m required : Nat) (hm : m = 0 ∨ c.pMin ≤ m) :
    (ownClaimOf c sc set m required).floor ≤ (ownClaimOf c sc set m required).ceiling
      ∧ (ownClaimOf c sc set m required).urgency ≤ 1000
      ∧ ((ownClaimOf c sc set m required).claimant = false →
          (ownClaimOf c sc set m required).ceiling = 0 ∧ (ownClaimOf c sc set m required).floor = 0
            ∧ (ownClaimOf c sc set m required).urgency = 0)
      ∧ ((ownClaimOf c sc set m required).claimant = true →
          (ownClaimOf c sc set m required).ceiling = m ∧ c.pMin ≤ (ownClaimOf c sc set m required).floor
            ∧ set = true ∧ sc.conflictHold = 0 ∧ 0 < m ∧ 0 < required) := by
  unfold ownClaimOf
  split
  · simp [OwnClaim.nonClaimant]
  · rename_i h
    simp only [not_or] at h
    obtain ⟨h1, h2, h3, h4⟩ := h
    simp only [claimFloor, claimUrgency, Bool.true_eq_false, false_imp_iff, true_imp_iff, true_and]
    refine ⟨by omega, by omega, by omega, ?_, by omega, by omega, by omega⟩
    simpa using h1

/-! ## The two cases -/

/-- Case A gives at least the floor and at most the ceiling (R65). -/
theorem shareWhenEnough_spec (b : Nat) (own : Claimant) (l : List Claimant) (h : own.floor ≤ own.ceiling) :
    own.floor ≤ shareWhenEnough b own l ∧ shareWhenEnough b own l ≤ own.ceiling := by
  unfold shareWhenEnough; dsimp only; omega

theorem placeClaimant_mem (own x : Claimant) (l : List Claimant) : x ∈ placeClaimant own l ↔ x = own ∨ x ∈ l := by
  induction l with
  | nil => simp [placeClaimant]
  | cons y ys ih => unfold placeClaimant; split <;> simp [ih]; tauto

/-- The walk's grant is the floor of a claimant with the id or less (R66). -/
theorem walkGrant_le_floor (id : Nat) (l : List Claimant) (b : Nat) :
    walkGrant id l b = 0 ∨ ∃ x ∈ l, x.id = id ∧ walkGrant id l b ≤ x.floor := by
  induction l generalizing b with
  | nil => exact Or.inl rfl
  | cons x xs ih =>
    unfold walkGrant
    split
    · rename_i h; exact Or.inr ⟨x, by simp, h, by omega⟩
    · rcases ih (b - min x.floor b) with h | ⟨y, hy, h⟩
      · exact Or.inl h
      · exact Or.inr ⟨y, by simp [hy], h⟩

/-- The walk never grants more than it has (R66). -/
theorem walkGrant_le (id : Nat) (l : List Claimant) (b : Nat) : walkGrant id l b ≤ b := by
  induction l generalizing b with
  | nil => simp [walkGrant]
  | cons x xs ih => unfold walkGrant; split <;> [omega; exact (ih _).trans (by omega)]

/-- The own share is 0, or from P_min to the own ceiling (R67); the peers do not bear the own id. -/
theorem ownShare_spec (c : Settings) (own : OwnClaim) (b : Nat) (peers : List Claimant) (hp : ∀ x ∈ peers, x.id ≠ c.stationId)
    (hf : own.floor ≤ own.ceiling) (hm : own.claimant = true → c.pMin ≤ own.floor) :
    ownShare c own b peers = 0 ∨ (own.claimant = true ∧ c.pMin ≤ ownShare c own b peers ∧ ownShare c own b peers ≤ own.ceiling) := by
  unfold ownShare
  cases hcl : own.claimant with
  | false => simp
  | true =>
    have hm := hm hcl
    simp only [if_true]
    split
    · have := shareWhenEnough_spec b ⟨c.stationId, own.floor, own.ceiling, own.urgency⟩
        (placeClaimant ⟨c.stationId, own.floor, own.ceiling, own.urgency⟩ peers) hf
      exact Or.inr ⟨trivial, hm.trans this.1, this.2⟩
    · unfold shareInShortfall
      split
      · exact Or.inl rfl
      · rename_i h
        rcases walkGrant_le_floor c.stationId (placeClaimant ⟨c.stationId, own.floor, own.ceiling, own.urgency⟩ peers) b with h0 | ⟨x, hx, hid, hle⟩
        · exact Or.inl h0
        · rcases (placeClaimant_mem _ _ _).mp hx with rfl | hx
          · exact Or.inr ⟨trivial, not_lt.mp h, hle.trans hf⟩
          · exact absurd hid (hp x hx)

end Sys2Proof.Machine
end

