-- ==== Sys2Proof/Laws/View.lean ====
section
/-! SUPPORT. The peer table: every operation keeps its order, its ids and its size (R35 to R44). -/

namespace Sys2Proof.Machine

/-- The order of R36 on entries. -/
def PeerEntry.before (a b : PeerEntry) : Prop := standsBefore a.urgency a.id b.urgency b.id = true

theorem PeerEntry.before_iff (a b : PeerEntry) : a.before b ↔ b.urgency < a.urgency ∨ (a.urgency = b.urgency ∧ a.id < b.id) := by
  simp [PeerEntry.before, standsBefore]

theorem PeerEntry.before_trans {a b c : PeerEntry} (h : a.before b) (k : b.before c) : a.before c := by
  rw [PeerEntry.before_iff] at *; omega

/-- Two entries with different ids stand one before the other (R36). -/
theorem PeerEntry.before_total {a b : PeerEntry} (h : a.id ≠ b.id) : a.before b ∨ b.before a := by
  rw [PeerEntry.before_iff, PeerEntry.before_iff]; omega

theorem placeEntry_mem (e x : PeerEntry) (l : List PeerEntry) : x ∈ placeEntry e l ↔ x = e ∨ x ∈ l := by
  induction l with
  | nil => simp [placeEntry]
  | cons y ys ih => unfold placeEntry; split <;> simp [ih]; tauto

theorem placeEntry_length (e : PeerEntry) (l : List PeerEntry) : (placeEntry e l).length = l.length + 1 := by
  induction l with
  | nil => rfl
  | cons y ys ih => unfold placeEntry; split <;> simp [ih]

/-- An entry put in at its place leaves the table in order (R36, R37). -/
theorem placeEntry_ordered (e : PeerEntry) (l : List PeerEntry) (h : l.Pairwise PeerEntry.before) (hid : ∀ x ∈ l, x.id ≠ e.id) :
    (placeEntry e l).Pairwise PeerEntry.before := by
  induction l with
  | nil => simp [placeEntry]
  | cons y ys ih =>
    rw [List.pairwise_cons] at h
    unfold placeEntry
    split
    · rename_i hy
      refine List.pairwise_cons.mpr ⟨fun z hz => ?_, ih h.2 (fun x hx => hid x (by simp [hx]))⟩
      rcases (placeEntry_mem e z ys).mp hz with rfl | hz
      · exact hy
      · exact h.1 z hz
    · rename_i hy
      have hey : e.before y := (PeerEntry.before_total (hid y (by simp))).resolve_left hy
      refine List.pairwise_cons.mpr ⟨fun z hz => ?_, List.pairwise_cons.mpr h⟩
      rcases List.mem_cons.mp hz with rfl | hz
      · exact hey
      · exact PeerEntry.before_trans hey (h.1 z hz)

theorem placeEntry_ids (e : PeerEntry) (l : List PeerEntry) (h : l.Pairwise (fun a b => a.id ≠ b.id)) (hid : ∀ x ∈ l, x.id ≠ e.id) :
    (placeEntry e l).Pairwise (fun a b => a.id ≠ b.id) := by
  induction l with
  | nil => simp [placeEntry]
  | cons y ys ih =>
    rw [List.pairwise_cons] at h
    unfold placeEntry
    split
    · refine List.pairwise_cons.mpr ⟨fun z hz => ?_, ih h.2 (fun x hx => hid x (by simp [hx]))⟩
      rcases (placeEntry_mem e z ys).mp hz with rfl | hz
      · exact hid y (by simp)
      · exact h.1 z hz
    · exact List.pairwise_cons.mpr ⟨fun z hz => (hid z hz).symm, List.pairwise_cons.mpr h⟩

theorem dropId_mem (id : Nat) (x : PeerEntry) (l : List PeerEntry) : x ∈ dropId id l ↔ x ∈ l ∧ x.id ≠ id := by
  simp [dropId]

theorem dropId_length_lt {id : Nat} {l : List PeerEntry} (h : ∃ x ∈ l, x.id = id) : (dropId id l).length < l.length := by
  obtain ⟨x, hx, hid⟩ := h
  exact List.length_filter_lt_length_iff_exists.mpr ⟨x, hx, by simp [hid]⟩

/-- A table with a STALE entry has one to evict (R42). -/
theorem evictee_ne_none {l : List PeerEntry} (h : ∃ x ∈ l, x.stale = true) : evictee l ≠ none := by
  induction l with
  | nil => simp at h
  | cons y ys ih =>
    rw [evictee]
    cases hys : evictee ys with
    | some w => dsimp only; split <;> simp
    | none =>
      obtain ⟨x, hx, hxs⟩ := h
      rcases List.mem_cons.mp hx with rfl | hx
      · simp [hxs]
      · exact absurd hys (ih ⟨x, hx, hxs⟩)

/-- The evicted entry is a STALE entry of the table, of the greatest age and then the highest id among the STALE ones (R42). -/
theorem evictee_spec {l : List PeerEntry} {e : PeerEntry} (h : evictee l = some e) :
    e ∈ l ∧ e.stale = true ∧ ∀ x ∈ l, x.stale = true → x.age < e.age ∨ (x.age = e.age ∧ x.id ≤ e.id) := by
  induction l generalizing e with
  | nil => simp [evictee] at h
  | cons y ys ih =>
    rw [evictee] at h
    cases hys : evictee ys with
    | none =>
      rw [hys] at h
      dsimp only at h
      split at h
      · rename_i hst
        simp only [Option.some.injEq] at h
        subst h
        refine ⟨by simp, hst, fun x hx hxs => ?_⟩
        rcases List.mem_cons.mp hx with rfl | hx
        · exact Or.inr ⟨rfl, le_refl _⟩
        · exact absurd hys (evictee_ne_none ⟨x, hx, hxs⟩)
      · simp at h
    | some w =>
      rw [hys] at h
      obtain ⟨hw1, hw2, hw3⟩ := ih hys
      dsimp only at h
      split at h
      · rename_i hb
        simp only [Option.some.injEq] at h
        subst h
        simp only [Bool.and_eq_true, evictBefore, decide_eq_true_eq] at hb
        refine ⟨by simp, hb.1, fun x hx hxs => ?_⟩
        rcases List.mem_cons.mp hx with rfl | hx
        · exact Or.inr ⟨rfl, le_refl _⟩
        · have := hw3 x hx hxs; omega
      · rename_i hb
        simp only [Option.some.injEq] at h
        subst h
        simp only [Bool.and_eq_true, evictBefore, decide_eq_true_eq, not_and] at hb
        refine ⟨by simp [hw1], hw2, fun x hx hxs => ?_⟩
        rcases List.mem_cons.mp hx with rfl | hx
        · have := hb hxs; omega
        · exact hw3 x hx hxs

/-- Where no entry is STALE there is none to evict (R43). -/
theorem evictee_eq_none {l : List PeerEntry} (h : ∀ x ∈ l, x.stale = false) : evictee l = none := by
  cases he : evictee l with
  | none => rfl
  | some e => have := evictee_spec he; rw [h e this.1] at this; simp at this

/-- The entry a CLAIM makes is within its ranges (R35). -/
theorem peerEntryOf_inRange (c : RxClaim) : (peerEntryOf c).inRange := by
  unfold peerEntryOf PeerEntry.inRange
  dsimp only
  refine ⟨?_, by omega, ?_, ?_, by omega, by omega, by simp⟩
  · split <;> omega
  · split <;> omega
  · intro h; rw [if_pos h]

theorem PeerView.tableOk_iff (own : Nat) (pv : PeerView) : pv.tableOk own ↔
    pv.entries.length ≤ 48 ∧ pv.entries.Pairwise PeerEntry.before ∧ pv.entries.Pairwise (fun a b => a.id ≠ b.id)
      ∧ (∀ e ∈ pv.entries, e.id ≠ own ∧ e.inRange) ∧ pv.unlistedDraw ≤ 9999 := Iff.rfl

/-- A CLAIM from another station keeps the table in order (R36, R37, R40 to R43). -/
theorem PeerView.takeClaim_tableOk {own : Nat} {pv : PeerView} {c : RxClaim} (h : pv.tableOk own) (hc : c.sender ≠ own) :
    (pv.takeClaim c).tableOk own := by
  rw [PeerView.tableOk_iff] at h
  obtain ⟨h1, h2, h3, h4, h5⟩ := h
  have put : ∀ l : List PeerEntry, l.length ≤ 47 → l.Sublist pv.entries → (∀ x ∈ l, x.id ≠ c.sender) →
      ({ pv with entries := placeEntry (peerEntryOf c) l } : PeerView).tableOk own := by
    intro l hl hsub hid
    refine (PeerView.tableOk_iff _ _).mpr ⟨by rw [placeEntry_length]; omega, placeEntry_ordered _ _ (h2.sublist hsub) hid,
      placeEntry_ids _ _ (h3.sublist hsub) hid, fun e he => ?_, h5⟩
    rcases (placeEntry_mem _ _ _).mp he with rfl | he
    · exact ⟨hc, peerEntryOf_inRange c⟩
    · exact h4 e (hsub.subset he)
  unfold PeerView.takeClaim
  dsimp only
  split
  · rename_i hany
    simp only [List.any_eq_true, decide_eq_true_eq] at hany
    have := dropId_length_lt hany
    exact put _ (by omega) List.filter_sublist (fun x hx => ((dropId_mem _ _ _).mp hx).2)
  · rename_i hany
    simp only [List.any_eq_true, decide_eq_true_eq, not_exists, not_and] at hany
    split
    · exact put _ (by omega) (List.Sublist.refl _) hany
    · cases he : evictee pv.entries with
      | none => exact (PeerView.tableOk_iff _ _).mpr ⟨h1, h2, h3, h4, by dsimp only; omega⟩
      | some old =>
        have := dropId_length_lt ⟨old, (evictee_spec he).1, rfl⟩
        exact put _ (by omega) List.filter_sublist (fun x hx => hany x ((dropId_mem _ _ _).mp hx).1)

/-- A tally expiry keeps the table in order (R37, R44). -/
theorem ageEntries_tableOk {own : Nat} {pv : PeerView} (t : Timer) (h : pv.tableOk own) :
    ({ pv with entries := ageEntries pv.entries, tallyTimer := t } : PeerView).tableOk own := by
  rw [PeerView.tableOk_iff] at h
  obtain ⟨h1, h2, h3, h4, h5⟩ := h
  unfold ageEntries
  refine (PeerView.tableOk_iff _ _).mpr ⟨?_, ?_, ?_, fun e he => ?_, h5⟩
  · exact (List.length_filter_le _ _).trans (by simpa using h1)
  · exact (List.Pairwise.map PeerEntry.older (fun _ _ hab => hab) h2).sublist List.filter_sublist
  · exact (List.Pairwise.map PeerEntry.older (fun _ _ hab => hab) h3).sublist List.filter_sublist
  · simp only [List.mem_filter, List.mem_map, decide_eq_true_eq] at he
    obtain ⟨⟨x, hx, rfl⟩, hage⟩ := he
    obtain ⟨hne, hr⟩ := h4 x hx
    obtain ⟨r1, r2, r3, r4, r5, r6, r7⟩ := hr
    refine ⟨hne, r1, r2, r3, r4, r5, ?_, ?_⟩
    · simp only [PeerEntry.older] at hage ⊢; omega
    · simp only [PeerEntry.older] at hage ⊢
      split
      · simp; omega
      · rw [r7]; omega

end Sys2Proof.Machine
end

