-- ==== Sys2Proof/Laws/Walker.lean ====
section
/-! SUPPORT. The Programme Walker's invariant: what every operation of the walker keeps (R85 to R105). -/

namespace Sys2Proof.Machine

/-! ## The walker's record after the shared operations -/

@[simp] theorem State.checkAt_pw (p : WalkerPos) (st : ProgStep) (s : State) :
    (State.checkAt p st s).pw = { s.pw with
      state := checkedState s.pw.holds s.dc.minute p st,
      pos := if checkedState s.pw.holds s.dc.minute p st = .running then some (p.run st) else s.pw.pos } := by
  unfold State.checkAt
  split
  · rename_i h; simp [h]
  · rename_i h; rw [if_neg (fun k => h k)]; simp

theorem State.stateCheck_pw {s : State} {p : WalkerPos} {st : ProgStep} (hp : s.pw.pos = some p) (hst : s.pw.steps[p.index]? = some st) :
    s.stateCheck.pw = { s.pw with
      state := checkedState s.pw.holds s.dc.minute p st,
      pos := if checkedState s.pw.holds s.dc.minute p st = .running then some (p.run st) else s.pw.pos } := by
  have : s.pw.atStep = some (p, st) := by simp [Walker.atStep, hp, hst]
  simp [State.stateCheck, this]

/-! ## Invariants in parts -/

/-- What holds of the plan slot and the programme whatever the state. -/
def Walker.base (pw : Walker) : Prop :=
  (∀ r, pw.revision = some r → ∃ h, pw.held = some h ∧ h.serial < r.serial)
    ∧ pw.steps.length ≤ 4
    ∧ pw.steps.Pairwise (fun a b => a.kind.code < b.kind.code)
    ∧ (∀ st ∈ pw.steps, 1 ≤ st.amount)
    ∧ (pw.pos.isSome = true ↔ pw.steps ≠ [])
    ∧ (∀ p, pw.pos = some p → p.carry ≤ 99 ∧ ∃ st, pw.steps[p.index]? = some st ∧ p.remaining ≤ st.amount)

/-- A walk with a current step, which may be at its end. -/
def Walker.walk (pw : Walker) : Prop :=
  pw.base ∧ pw.pos.isSome = true ∧ pw.van.isSome = true ∧ pw.held.isSome = true ∧ pw.status.isSome = true ∧ pw.cancelled = none
    ∧ pw.defaultTimer.isRunning = false

/-- A walk whose current step has energy left. -/
def Walker.walkOn (pw : Walker) : Prop := pw.walk ∧ ∀ p, pw.pos = some p → 1 ≤ p.remaining

/-- A held plan ready to be built from or waited on (R93). -/
def Walker.planned (pw : Walker) : Prop :=
  pw.van.isSome = true ∧ pw.held.isSome = true ∧ pw.revision = none ∧ pw.cancelled = none ∧ pw.defaultTimer.isRunning = false

theorem Walker.ok_base {pw : Walker} (h : pw.ok) : pw.base :=
  ⟨h.1.1, h.2.1.1, h.2.1.2.1, h.2.1.2.2.1, h.2.1.2.2.2.1, fun p hp =>
    ⟨(h.2.1.2.2.2.2 p hp).1, (h.2.1.2.2.2.2 p hp).2.imp (fun _ k => ⟨k.1, k.2.1⟩)⟩⟩

theorem ProgState.walking_iff (x : ProgState) : x.walking = true ↔ x = .running ∨ x = .waiting ∨ x = .held := by
  cases x <;> simp [ProgState.walking]

theorem Walker.ok_walkOn {pw : Walker} (h : pw.ok) (hw : pw.state.walking = true) : pw.walkOn := by
  have hs := h.2.2
  obtain ⟨hp, hh, hst, -⟩ := hs.2.1 hw
  have hwk := (ProgState.walking_iff _).mp hw
  refine ⟨⟨Walker.ok_base h, hp, ?_, hh, hst, ?_, ?_⟩, ?_⟩
  · exact hs.1.mpr (by rcases hwk with k | k | k <;> simp [k])
  · have := h.1.2.1
    cases hc : pw.cancelled with
    | none => rfl
    | some x =>
      have := this.mp (by simp [hc])
      rcases hwk with k | k | k <;> simp [k] at this
  · have := hs.2.2.2.2
    cases ht : pw.defaultTimer.isRunning with
    | false => rfl
    | true =>
      have := this.mp ht
      rcases hwk with k | k | k <;> simp [k] at this
  · intro p hpos
    obtain ⟨-, st, -, -, hr⟩ := h.2.1.2.2.2.2 p hpos
    exact hr hw

/-- The state check answers one of the walking states, HELD exactly while a cause is present (R87). -/
theorem checkedState_spec (h : HoldSet) (m : Nat) (p : WalkerPos) (st : ProgStep) :
    (checkedState h m p st).walking = true ∧ (checkedState h m p st = .held ↔ h.holding = true) := by
  unfold checkedState
  (repeat' split) <;> simp_all [ProgState.walking]

/-- The state check puts a walk in order (R87). -/
theorem State.stateCheck_ok {s : State} (h : s.pw.walkOn) : s.stateCheck.pw.ok := by
  obtain ⟨⟨⟨b1, b2, b3, b4, b5, b6⟩, hp, hv, hh, hs, hc, ht⟩, hr⟩ := h
  obtain ⟨p, hpos⟩ := Option.isSome_iff_exists.mp hp
  obtain ⟨hcar, st, hst, hle⟩ := b6 p hpos
  rw [State.stateCheck_pw hpos hst]
  obtain ⟨c1, c2⟩ := checkedState_spec s.pw.holds s.dc.minute p st
  generalize checkedState s.pw.holds s.dc.minute p st = x at c1 c2 ⊢
  have hpos' : ∀ q, (if x = .running then some (p.run st) else s.pw.pos) = some q → q.carry ≤ 99 ∧ q.index = p.index ∧ q.remaining = p.remaining := by
    intro q hq
    split at hq
    · simp only [Option.some.injEq] at hq; subst hq; exact ⟨hcar, rfl, rfl⟩
    · rw [hpos] at hq; simp only [Option.some.injEq] at hq; subst hq; exact ⟨hcar, rfl, rfl⟩
  have hsome : (if x = .running then some (p.run st) else s.pw.pos).isSome = true := by split <;> simp [hpos]
  have hx := (ProgState.walking_iff x).mp c1
  refine ⟨⟨b1, ?_, fun _ => c1⟩, ⟨b2, b3, b4, ?_, fun q hq => ?_⟩, ⟨?_, fun _ => ⟨hsome, hh, hs, c2⟩, ?_, ?_, ?_⟩⟩
  · rw [hc]; rcases hx with k | k | k <;> simp [k]
  · rw [hsome]; exact ⟨fun _ => b5.mp hp, fun _ => rfl⟩
  · obtain ⟨q1, q2, q3⟩ := hpos' q hq
    exact ⟨q1, st, by rw [q2]; exact hst, by omega, fun _ => by rw [q3]; exact hr p hpos⟩
  · rw [hv]; rcases hx with k | k | k <;> simp [k]
  · rcases hx with k | k | k <;> simp [k]
  · rcases hx with k | k | k <;> simp [k]
  · dsimp only; rw [ht]; rcases hx with k | k | k <;> simp [k]

theorem State.checkWalking_walking {s : State} (h : s.pw.state.walking = true) : s.checkWalking = s.stateCheck := by
  simp [State.checkWalking, h]

theorem State.setHolds_pw_still {s : State} (h : HoldSet) (hw : s.pw.state.walking = false) :
    (State.setHolds h s).pw = { s.pw with holds := h } := by
  simp [State.setHolds, State.checkWalking, hw]

/-- A change in the hold set keeps the walker in order; its policy gate cause changes only in a walking state (R88). -/
theorem State.setHolds_ok {s : State} (h : HoldSet) (hok : s.pw.ok)
    (hg : s.pw.state.walking = true ∨ h.gateClosed = s.pw.holds.gateClosed) : (State.setHolds h s).pw.ok := by
  cases hw : s.pw.state.walking with
  | true =>
    have : State.setHolds h s = (s.withPw { s.pw with holds := h }).stateCheck := by
      simp [State.setHolds, State.checkWalking, hw]
    rw [this]
    have hwalk : s.pw.walkOn := Walker.ok_walkOn hok hw
    exact State.stateCheck_ok (s := s.withPw { s.pw with holds := h }) hwalk
  | false =>
    rw [State.setHolds_pw_still h hw]
    have hg : h.gateClosed = s.pw.holds.gateClosed := by simpa [hw] using hg
    obtain ⟨h1, h2, s1, s2, s3, s4, s5⟩ := hok
    exact ⟨h1, h2, s1, fun k => absurd k (by simp [hw]), s3, fun k => ⟨(s4 k).1, by rw [hg]; exact (s4 k).2⟩, s5⟩

/-! ## Entering a step, and building -/

theorem State.enterStep_ok {s : State} (kind : StepKind) (h : s.pw.walkOn) : (State.enterStep kind s).pw.ok := by
  unfold State.enterStep
  exact State.stateCheck_ok h

theorem State.buildDone_pw (s : State) :
    s.buildDone.pw = { s.pw with state := .done, steps := [], pos := none, defaultTimer := .stopped } := by
  simp [State.buildDone]

theorem State.buildOrAwait_ok {s : State} (h : s.pw.planned) : s.buildOrAwait.pw.ok := by
  obtain ⟨hv, hh, hr, hc, ht⟩ := h
  unfold State.buildOrAwait
  split
  · rename_i plan van st hplan hvan hstatus _
    unfold State.build
    split
    · rw [State.buildDone_pw]
      simp only [State.heaterOff_pw]
      refine ⟨⟨?_, ?_, ?_⟩, ⟨?_, ?_, ?_, ?_, ?_⟩, ⟨?_, ?_, ?_, ?_, ?_⟩⟩ <;>
        simp [hr, hc, hv, ProgState.walking, Timer.isRunning]
    · rename_i first rest hsteps
      unfold State.buildWalk
      obtain ⟨k1, k2, k3⟩ := buildSteps_spec s.cfg plan van st
      rw [hsteps] at k1 k2 k3
      apply State.enterStep_ok
      simp only [State.heaterOff_pw, State.withPw_pw]
      refine ⟨⟨⟨by simp [hr], k1, k2, k3, by simp, fun p hp => ?_⟩, rfl, hv, hh, by simp [hstatus], hc, rfl⟩, fun p hp => ?_⟩
      · simp only [Option.some.injEq] at hp; subst hp; exact ⟨by simp, first, rfl, le_refl _⟩
      · simp only [Option.some.injEq] at hp; subst hp; exact k3 first (by simp)
  · simp only [State.tellPower_pw, State.withPw_pw]
    obtain ⟨plan, hplan⟩ := Option.isSome_iff_exists.mp hh
    refine ⟨⟨?_, ?_, ?_⟩, ⟨?_, ?_, ?_, ?_, ?_⟩, ⟨?_, ?_, ?_, ?_, ?_⟩⟩ <;> simp [hr, hc, hv, ht, hplan, ProgState.walking]

/-- The current step of a walking state. -/
theorem Walker.walk_current {pw : Walker} (h : pw.walk) (hw : pw.state.walking = true) :
    ∃ p st, pw.pos = some p ∧ pw.steps[p.index]? = some st ∧ pw.current = some (p, st) ∧ p.carry ≤ 99 ∧ p.remaining ≤ st.amount := by
  obtain ⟨p, hp⟩ := Option.isSome_iff_exists.mp h.2.1
  obtain ⟨hcar, st, hst, hle⟩ := h.1.2.2.2.2.2 p hp
  exact ⟨p, st, hp, hst, by simp [Walker.current, hw, Walker.atStep, hp, hst], hcar, hle⟩

theorem State.finish_pw (p : WalkerPos) (s : State) :
    (State.finish p s).pw = { s.pw with state := .done, pos := some { p with remaining := 0 } } := by
  simp [State.finish]

theorem State.finish_ok {s : State} {p : WalkerPos} (h : s.pw.walk) (hp : s.pw.pos = some p) (hr : s.pw.revision = none) :
    (State.finish p s).pw.ok := by
  obtain ⟨⟨b1, b2, b3, b4, b5, b6⟩, hpos, hv, hh, hs, hc, ht⟩ := h
  obtain ⟨hcar, st, hst, -⟩ := b6 p hp
  have hne := b5.mp hpos
  rw [State.finish_pw]
  refine ⟨⟨?_, ?_, ?_⟩, ⟨b2, b3, b4, by simpa using hne, fun q hq => ?_⟩, ⟨?_, ?_, ?_, ?_, ?_⟩⟩ <;>
    simp_all [ProgState.walking]
  subst hq; exact ⟨hcar, st, hst, Nat.zero_le _⟩

/-- What follows an ended step leaves the walker in order (R101). -/
theorem State.afterStep_ok {s : State} {p : WalkerPos} {st : ProgStep} (h : s.pw.walk) (hp : s.pw.pos = some p) :
    (State.afterStep p st s).pw.ok := by
  unfold State.afterStep
  split
  · refine State.buildOrAwait_ok ?_
    obtain ⟨-, -, hv, -, -, hc, ht⟩ := h
    exact ⟨hv, rfl, rfl, hc, ht⟩
  · rename_i hr
    split
    · exact State.finish_ok h hp hr
    · split
      · rename_i nextStep hnext
        obtain ⟨⟨b1, b2, b3, b4, b5, b6⟩, hpos, hv, hh, hs, hc, ht⟩ := h
        obtain ⟨hcar, -⟩ := b6 p hp
        have hmem : nextStep ∈ s.pw.steps := List.mem_of_getElem? hnext
        unfold State.changeStep
        apply State.enterStep_ok
        refine ⟨⟨⟨b1, b2, b3, b4, ?_, fun q hq => ?_⟩, rfl, hv, hh, hs, hc, ht⟩, fun q hq => ?_⟩
        · simpa using b5.mp hpos
        · simp only [State.withPw_pw, Option.some.injEq] at hq; subst hq; exact ⟨hcar, nextStep, hnext, le_refl _⟩
        · simp only [State.withPw_pw, Option.some.injEq] at hq; subst hq; exact b4 _ hmem
      · exact State.finish_ok h hp hr

theorem State.endStep_ok {s : State} (refusal : Bool) (h : s.pw.walk) (hw : s.pw.state.walking = true) :
    (State.endStep refusal s).pw.ok := by
  obtain ⟨p, st, hp, hst, hcur, -, -⟩ := Walker.walk_current h hw
  unfold State.endStep
  rw [hcur]
  dsimp only
  split <;> exact State.afterStep_ok (by simpa using h) (by simpa using hp)

/-! ## What the other blocks report -/

theorem Walker.awaiting_planned {pw : Walker} (h : pw.ok) (hs : pw.state = .awaiting) (hh : pw.held.isSome = true) : pw.planned := by
  obtain ⟨⟨h1, h2, h3⟩, -, s1, -, -, -, s5⟩ := h
  refine ⟨s1.mpr (by simp [hs]), hh, ?_, ?_, ?_⟩
  · cases hr : pw.revision with
    | none => rfl
    | some r => have := h3 (by simp [hr]); rw [hs] at this; simp [ProgState.walking] at this
  · cases hc : pw.cancelled with
    | none => rfl
    | some r => have := h2.mp (by simp [hc]); rw [hs] at this; simp at this
  · cases ht : pw.defaultTimer.isRunning with
    | false => rfl
    | true => have := (s5.mp ht).2; rw [this] at hh; simp at hh

theorem State.minuteRoll_ok {s : State} (clockSet : Bool) (h : s.pw.ok) : (State.minuteRoll clockSet s).pw.ok := by
  unfold State.minuteRoll
  split
  · rename_i k; exact State.buildOrAwait_ok (Walker.awaiting_planned h k.2.1 k.2.2.1)
  · split
    · rename_i hw; exact State.stateCheck_ok (Walker.ok_walkOn h hw)
    · exact h

theorem State.moveClock_ok {s : State} (next : DepotClock) (h : s.pw.ok) : (State.moveClock next s).pw.ok := by
  unfold State.moveClock
  dsimp only
  (repeat' split) <;> first | exact h | exact State.minuteRoll_ok _ h

theorem State.adoptTime_ok {s : State} (t : Nat) (x : ClockSource) (a : Nat) (h : s.pw.ok) : (State.adoptTime t x a s).pw.ok :=
  State.moveClock_ok _ h

theorem State.offerAnchor_ok {s : State} (t : Nat) (h : s.pw.ok) : (State.offerAnchor t s).pw.ok := by
  unfold State.offerAnchor
  (repeat' split) <;> first | exact h | exact State.adoptTime_ok _ _ _ h

theorem State.offerPeerTime_ok {s : State} (t : Nat) (h : s.pw.ok) : (State.offerPeerTime t s).pw.ok := by
  unfold State.offerPeerTime
  (repeat' split) <;> first | exact h | exact State.adoptTime_ok _ _ _ h

theorem State.gateReport_ok {s : State} (closed : Bool) (h : s.pw.ok) (hw : s.pw.state.walking = true) :
    (State.gateReport closed s).pw.ok := State.setHolds_ok _ h (Or.inl hw)

/-- No van, no plan and no programme: what R89 finds at a fresh arrival. -/
def Walker.bare (pw : Walker) : Prop :=
  pw.held = none ∧ pw.revision = none ∧ pw.cancelled = none ∧ pw.steps = [] ∧ pw.pos = none ∧ pw.holds.gateClosed = false

theorem Walker.ok_bare {pw : Walker} (h : pw.ok) (hs : pw.state = .empty) : pw.bare := by
  obtain ⟨⟨h1, h2, h3⟩, ⟨-, -, -, p4, -⟩, -, -, s3, s4, -⟩ := h
  have hst := s3 (Or.inl hs)
  refine ⟨(s4 (Or.inl hs)).1, ?_, ?_, hst, ?_, (s4 (Or.inl hs)).2⟩
  · cases hr : pw.revision with
    | none => rfl
    | some r => have := h3 (by simp [hr]); rw [hs] at this; simp [ProgState.walking] at this
  · cases hc : pw.cancelled with
    | none => rfl
    | some r => have := h2.mp (by simp [hc]); rw [hs] at this; simp at this
  · cases hp : pw.pos with
    | none => rfl
    | some p => exact absurd hst (p4.mp (by simp [hp]))

theorem Walker.clearPlans_bare (pw : Walker) : pw.clearPlans.bare := ⟨rfl, rfl, rfl, rfl, rfl, rfl⟩

/-- An EMPTY walker without plans is in order (R85, R92). -/
theorem Walker.empty_ok {pw : Walker} (h : pw.bare) (hs : pw.state = .empty) (hv : pw.van = none) (ht : pw.defaultTimer = .stopped) : pw.ok := by
  obtain ⟨h1, h2, h3, h4, h5, h6⟩ := h
  refine ⟨⟨?_, ?_, ?_⟩, ⟨?_, ?_, ?_, ?_, ?_⟩, ⟨?_, ?_, ?_, ?_, ?_⟩⟩ <;>
    simp [hs, hv, ht, h1, h2, h3, h4, h5, h6, ProgState.walking, Timer.isRunning]

theorem State.freshArrival_ok {s : State} (tag : VanTag) (q : Nat) (h : s.pw.bare) : (State.freshArrival tag q s).pw.ok := by
  obtain ⟨h1, h2, h3, h4, h5, h6⟩ := h
  unfold State.freshArrival
  simp only [State.queueReport_pw, State.placeStatus_pw, State.tellPower_pw, State.withPw_pw]
  refine ⟨⟨?_, ?_, ?_⟩, ⟨?_, ?_, ?_, ?_, ?_⟩, ⟨?_, ?_, ?_, ?_, ?_⟩⟩ <;> simp [h1, h2, h3, h4, h5, ProgState.walking, Timer.isRunning]

theorem State.vanIdentified_ok {s : State} (tag : VanTag) (q : Nat) (h : s.pw.ok) : (State.vanIdentified tag q s).pw.ok := by
  unfold State.vanIdentified
  split
  · rename_i hs; exact State.freshArrival_ok _ _ (Walker.ok_bare h hs)
  · exact h

theorem State.differentVan_ok {s : State} (tag : VanTag) (q : Nat) (h : s.pw.ok) : (State.differentVan tag q s).pw.ok := by
  unfold State.differentVan
  split
  · rename_i hs; exact State.freshArrival_ok _ _ (Walker.ok_bare h hs)
  · refine State.freshArrival_ok _ _ ?_
    exact Walker.clearPlans_bare _

theorem State.sameVan_ok {s : State} (h : s.pw.ok) : s.sameVan.pw.ok := by
  unfold State.sameVan
  exact State.setHolds_ok _ h (Or.inr rfl)

theorem State.linkLostReport_ok {s : State} (h : s.pw.ok) : s.linkLostReport.pw.ok := by
  unfold State.linkLostReport
  split
  · exact State.setHolds_ok _ h (Or.inr rfl)
  · exact h

theorem State.walkerPlugRemoved_ok (s : State) : s.walkerPlugRemoved.pw.ok := by
  unfold State.walkerPlugRemoved
  exact Walker.empty_ok (Walker.clearPlans_bare _) rfl rfl rfl

theorem State.takeStatus_ok {s : State} (soc : Nat) (temp : Int) (h : s.pw.ok) : (State.takeStatus soc temp s).pw.ok := by
  have key : ∀ x : VanStatus, ({ s.pw with status := some x } : Walker).ok := by
    intro x
    obtain ⟨h1, h2, s1, s2, s3, s4, s5⟩ := h
    exact ⟨h1, h2, s1, fun k => ⟨(s2 k).1, (s2 k).2.1, rfl, (s2 k).2.2.2⟩, s3, s4, s5⟩
  unfold State.takeStatus
  dsimp only
  split
  · split
    · split
      · rename_i hs hb
        simp only [Bool.and_eq_true] at hb
        exact State.buildOrAwait_ok (Walker.awaiting_planned (key _) hs hb.1)
      · exact key _
    · split
      · rename_i hw
        have hwk : s.pw.state.walking = true := by
          unfold State.warmEnds Walker.current at hw
          by_contra hn
          simp [hn] at hw
        exact State.endStep_ok _ (Walker.ok_walkOn (key _) hwk).1 hwk
      · exact key _
  · exact h

theorem Walker.current_walking {pw : Walker} {x : WalkerPos × ProgStep} (h : pw.current = some x) : pw.state.walking = true := by
  unfold Walker.current at h; by_contra hn; simp [hn] at h

theorem State.heaterRefused_ok {s : State} (x : Heaters) (h : s.pw.ok) : (State.heaterRefused x s).pw.ok := by
  unfold State.heaterRefused
  split
  · rename_i hc
    have hw := Walker.current_walking hc
    split
    · exact State.endStep_ok _ (by simpa using (Walker.ok_walkOn h hw).1) (by simpa using hw)
    · exact h
  · exact h

theorem State.countPulse_ok {s : State} (h : s.pw.ok) : s.countPulse.pw.ok := by
  unfold State.countPulse
  split
  · exact h
  · rename_i p st hc
    have hw := Walker.current_walking hc
    have hwalk := Walker.ok_walkOn h hw
    obtain ⟨p', st', hp, hst, hcur, hcar, hle⟩ := Walker.walk_current hwalk.1 hw
    rw [hcur] at hc
    simp only [Option.some.injEq, Prod.mk.injEq] at hc
    obtain ⟨rfl, rfl⟩ := hc
    have hpos := hwalk.2 p' hp
    obtain ⟨⟨b1, b2, b3, b4, b5, b6⟩, q1, q2, q3, q4, q5, q6⟩ := hwalk.1
    have upd : ∀ (r car d : Nat), car ≤ 99 → r ≤ st'.amount →
        ({ s.pw with pos := some { p' with carry := car, remaining := r }, delivered := d } : Walker).walk := by
      intro r car d h1 h2
      refine ⟨⟨b1, b2, b3, b4, by simpa using b5.mp q1, fun q hq => ?_⟩, rfl, q2, q3, q4, q5, q6⟩
      simp only [Option.some.injEq] at hq; subst hq
      exact ⟨h1, st', hst, h2⟩
    have okw : ∀ (r car d : Nat), car ≤ 99 → r ≤ st'.amount → 1 ≤ r →
        ({ s.pw with pos := some { p' with carry := car, remaining := r }, delivered := d } : Walker).ok := by
      intro r car d h1 h2 h3
      obtain ⟨⟨k1, k2, k3⟩, ⟨l1, l2, l3, l4, l5⟩, s1, s2, s3, s4, s5⟩ := h
      refine ⟨⟨k1, k2, k3⟩, ⟨l1, l2, l3, by simpa using b5.mp q1, fun q hq => ?_⟩, s1, fun k => ⟨rfl, (s2 k).2⟩, s3, s4, s5⟩
      simp only [Option.some.injEq] at hq; subst hq
      exact ⟨h1, st', hst, h2, fun _ => h3⟩
    dsimp only
    split
    · simpa using okw p'.remaining (p'.carry + 1) s.pw.delivered (by omega) hle hpos
    · split
      · exact State.endStep_ok _ (upd _ _ _ (by omega) (by omega)) hw
      · exact okw _ _ _ (by omega) (by omega) (by omega)

/-- A plan judged taken outside ABORTED is newer than the held plan (R96). -/
theorem Walker.judgePlan_newer {pw : Walker} {plan : Plan} (h : pw.judgePlan plan = .taken) (hs : pw.state ≠ .aborted) {q : Plan}
    (hq : pw.held = some q) : q.serial < plan.serial := by
  unfold Walker.judgePlan at h
  split at h
  · simp at h
  · split at h
    · simp at h
    · split at h
      · simp at h
      · rename_i hk
        simp only [Bool.or_eq_true, not_or] at hk
        simpa [notNewer, hq] using hk.1

theorem Walker.judgePlan_van {pw : Walker} {plan : Plan} (h : pw.judgePlan plan = .taken) : pw.state ≠ .empty := by
  unfold Walker.judgePlan at h
  split at h
  · simp at h
  · rename_i hk; intro he; exact hk (Or.inl he)

theorem State.takePlan_ok {s : State} {plan : Plan} (h : s.pw.ok) (ht : s.pw.judgePlan plan = .taken) : (State.takePlan plan s).pw.ok := by
  unfold State.takePlan
  dsimp only
  split
  · rename_i hrun
    simp only [State.queueReport_pw, State.withPw_pw]
    obtain ⟨⟨k1, k2, k3⟩, p1, s1, s2, s3, s4, s5⟩ := h
    refine ⟨⟨fun r hr => ?_, k2, fun _ => by simp [hrun, ProgState.walking]⟩, p1, s1, s2, s3, s4, s5⟩
    simp only [Option.some.injEq] at hr
    obtain ⟨q, hq⟩ := Option.isSome_iff_exists.mp (s2 (by simp [hrun, ProgState.walking])).2.1
    exact ⟨q, hq, by rw [← hr]; exact Walker.judgePlan_newer ht (by simp [hrun]) hq⟩
  · refine State.buildOrAwait_ok ?_
    simp only [State.queueReport_pw, State.withPw_pw]
    exact ⟨h.2.2.1.mpr (Walker.judgePlan_van ht), rfl, rfl, rfl, rfl⟩

theorem State.judgePlan_ok {s : State} (plan : Plan) (h : s.pw.ok) : (State.judgePlan plan s).pw.ok := by
  unfold State.judgePlan
  split
  · exact h
  · simpa using h
  · rename_i ht; exact State.takePlan_ok h ht

theorem State.takeCancel_ok {s : State} (tag : VanTag) (serial : Nat) (h : s.pw.ok) : (State.takeCancel tag serial s).pw.ok := by
  unfold State.takeCancel
  split
  · rename_i hc
    have hvan : s.pw.van.isSome = true := by
      unfold Walker.takesCancel at hc
      split at hc
      · simp only [decide_eq_true_eq] at hc
        cases hv : s.pw.van with
        | none => rw [hv] at hc; simp at hc
        | some v => rfl
      · simp at hc
    simp only [State.queueReport_pw, State.tellPower_pw, State.withPw_pw, State.heaterOff_pw]
    refine ⟨⟨?_, ?_, ?_⟩, ⟨?_, ?_, ?_, ?_, ?_⟩, ⟨?_, ?_, ?_, ?_, ?_⟩⟩ <;>
      simp [hvan, ProgState.walking, Timer.isRunning, HoldSet.withGate]
  · exact h

theorem State.adoptDefault_ok {s : State} (h : s.pw.ok) (hs : s.pw.state = .awaiting) (hh : s.pw.held = none) : s.adoptDefault.pw.ok := by
  unfold State.adoptDefault
  refine State.buildOrAwait_ok ?_
  obtain ⟨⟨k1, k2, k3⟩, -, s1, -, -, -, -⟩ := h
  simp only [State.queueReport_pw, State.withPw_pw]
  refine ⟨s1.mpr (by simp [hs]), rfl, ?_, ?_, rfl⟩
  · cases hr : s.pw.revision with
    | none => rfl
    | some r => obtain ⟨q, hq, -⟩ := k1 r hr; rw [hh] at hq; simp at hq
  · cases hc : s.pw.cancelled with
    | none => rfl
    | some r => have := k2.mp (by simp [hc]); rw [hs] at this; simp at this

end Sys2Proof.Machine
end

