-- ==== Sys2Proof/Laws/Views.lean ====
section
/-! SUPPORT. What the blocks know of each other: Power Stage Control's view of the walker after each of the walker's operations, and the
hold causes and the attached van that an operation leaves as they are (R88, R135, R145). -/

namespace Sys2Proof.Machine

variable {s : State}

/-- Power Stage Control's programme view is the walker's (R88, R135). -/
def State.viewsTold (s : State) : Prop :=
  s.ps.viewState = s.pw.state ∧ s.ps.viewLinkLost = s.pw.holds.linkLost ∧ s.ps.viewMeterLost = s.pw.holds.meterLost

theorem State.viewsTold_of_eq {s t : State} (h : s.viewsTold) (hp : t.pw = s.pw) (hs : t.ps = s.ps) : t.viewsTold := by
  unfold State.viewsTold; rw [hp, hs]; exact h

theorem State.tellPower_viewsTold (s : State) : s.tellPower.viewsTold := by
  unfold State.viewsTold State.tellPower; simp [PowerStage.takeView]

theorem State.queueReport_viewsTold (k : ReportKind) (tag : VanTag) (d : Nat) (h : s.viewsTold) : (State.queueReport k tag d s).viewsTold :=
  State.viewsTold_of_eq h (by simp) (by simp)

theorem State.checkAt_viewsTold (p : WalkerPos) (st : ProgStep) (s : State) : (State.checkAt p st s).viewsTold := by
  unfold State.checkAt; split <;> exact State.tellPower_viewsTold _

theorem State.stateCheck_viewsTold (s : State) : s.stateCheck.viewsTold := by
  unfold State.stateCheck; split
  · exact State.checkAt_viewsTold _ _ _
  · exact State.tellPower_viewsTold _

theorem State.checkWalking_viewsTold (s : State) : s.checkWalking.viewsTold := by
  unfold State.checkWalking; split
  · exact State.stateCheck_viewsTold _
  · exact State.tellPower_viewsTold _

theorem State.setHolds_viewsTold (h : HoldSet) (s : State) : (State.setHolds h s).viewsTold := State.checkWalking_viewsTold _

theorem State.enterStep_viewsTold (kind : StepKind) (s : State) : (State.enterStep kind s).viewsTold := State.stateCheck_viewsTold _

theorem State.build_viewsTold (plan : Plan) (van : AttachedVan) (st : VanStatus) (s : State) : (State.build plan van st s).viewsTold := by
  unfold State.build; split
  · unfold State.buildDone; exact State.queueReport_viewsTold _ _ _ (State.tellPower_viewsTold _)
  · exact State.enterStep_viewsTold _ _

theorem State.buildOrAwait_viewsTold (s : State) : s.buildOrAwait.viewsTold := by
  unfold State.buildOrAwait; split
  · exact State.build_viewsTold _ _ _ _
  · exact State.tellPower_viewsTold _

theorem State.finish_viewsTold (p : WalkerPos) (s : State) : (State.finish p s).viewsTold := by
  unfold State.finish; exact State.queueReport_viewsTold _ _ _ (State.tellPower_viewsTold _)

theorem State.afterStep_viewsTold (p : WalkerPos) (st : ProgStep) (s : State) : (State.afterStep p st s).viewsTold := by
  unfold State.afterStep
  (repeat' split) <;>
    first | exact State.buildOrAwait_viewsTold _ | exact State.finish_viewsTold _ _ | exact State.enterStep_viewsTold _ _

theorem State.endStep_viewsTold (refusal : Bool) (h : s.viewsTold) : (State.endStep refusal s).viewsTold := by
  unfold State.endStep
  split
  · exact h
  · exact State.afterStep_viewsTold _ _ _

theorem State.minuteRoll_viewsTold (clockSet : Bool) (h : s.viewsTold) : (State.minuteRoll clockSet s).viewsTold := by
  unfold State.minuteRoll
  (repeat' split) <;> first | exact State.buildOrAwait_viewsTold _ | exact State.stateCheck_viewsTold _ | exact h

theorem State.moveClock_viewsTold (next : DepotClock) (h : s.viewsTold) : (State.moveClock next s).viewsTold := by
  unfold State.moveClock; dsimp only
  (repeat' split) <;> first | exact h | exact State.minuteRoll_viewsTold _ h

theorem State.offerAnchor_viewsTold (t : Nat) (h : s.viewsTold) : (State.offerAnchor t s).viewsTold := by
  unfold State.offerAnchor
  (repeat' split) <;> first | exact h | exact State.moveClock_viewsTold _ h

theorem State.offerPeerTime_viewsTold (t : Nat) (h : s.viewsTold) : (State.offerPeerTime t s).viewsTold := by
  unfold State.offerPeerTime
  (repeat' split) <;> first | exact h | exact State.moveClock_viewsTold _ h

theorem State.freshArrival_viewsTold (tag : VanTag) (q : Nat) (s : State) : (State.freshArrival tag q s).viewsTold := by
  unfold State.freshArrival
  dsimp only
  exact State.queueReport_viewsTold _ _ _ (State.tellPower_viewsTold _)

theorem State.vanIdentified_viewsTold (tag : VanTag) (q : Nat) (h : s.viewsTold) : (State.vanIdentified tag q s).viewsTold := by
  unfold State.vanIdentified; split
  · exact State.freshArrival_viewsTold _ _ _
  · exact h

theorem State.differentVan_viewsTold (tag : VanTag) (q : Nat) (s : State) : (State.differentVan tag q s).viewsTold := by
  unfold State.differentVan; split <;> exact State.freshArrival_viewsTold _ _ _

theorem State.linkLostReport_viewsTold (h : s.viewsTold) : s.linkLostReport.viewsTold := by
  unfold State.linkLostReport; split
  · exact State.setHolds_viewsTold _ _
  · exact h

theorem State.walkerPlugRemoved_viewsTold (s : State) : s.walkerPlugRemoved.viewsTold := by
  unfold State.walkerPlugRemoved; exact State.tellPower_viewsTold _

theorem State.takeStatus_viewsTold (soc : Nat) (temp : Int) (h : s.viewsTold) : (State.takeStatus soc temp s).viewsTold := by
  unfold State.takeStatus
  dsimp only
  (repeat' split) <;> first | exact h | exact State.buildOrAwait_viewsTold _ | exact State.endStep_viewsTold _ h

theorem State.heaterRefused_viewsTold (x : Heaters) (h : s.viewsTold) : (State.heaterRefused x s).viewsTold := by
  unfold State.heaterRefused
  (repeat' split) <;> first | exact h | exact State.endStep_viewsTold _ (State.queueReport_viewsTold _ _ _ h)

theorem State.countPulse_viewsTold (h : s.viewsTold) : s.countPulse.viewsTold := by
  unfold State.countPulse
  dsimp only
  (repeat' split) <;> first | exact h | exact State.endStep_viewsTold _ h

theorem State.judgePlan_viewsTold (plan : Plan) (h : s.viewsTold) : (State.judgePlan plan s).viewsTold := by
  unfold State.judgePlan State.takePlan
  dsimp only
  (repeat' split) <;>
    first | exact h | exact State.buildOrAwait_viewsTold _ | exact State.queueReport_viewsTold _ _ _ h

theorem State.takeCancel_viewsTold (tag : VanTag) (serial : Nat) (h : s.viewsTold) : (State.takeCancel tag serial s).viewsTold := by
  unfold State.takeCancel
  split
  · exact State.queueReport_viewsTold _ _ _ (State.tellPower_viewsTold _)
  · exact h

theorem State.adoptDefault_viewsTold (s : State) : s.adoptDefault.viewsTold := State.buildOrAwait_viewsTold _

/-! ## The hold causes other blocks own, and the attached van -/

/-- The three hold causes that other blocks own, and the attached van, are as they were (R88). -/
def State.causesKept (s t : State) : Prop :=
  t.pw.holds.linkLost = s.pw.holds.linkLost ∧ t.pw.holds.meterLost = s.pw.holds.meterLost
    ∧ t.pw.holds.contactorFault = s.pw.holds.contactorFault ∧ t.pw.van = s.pw.van

theorem State.causesKept.rfl (s : State) : s.causesKept s := ⟨.refl _, .refl _, .refl _, .refl _⟩
theorem State.causesKept.trans {a b c : State} (h : a.causesKept b) (k : b.causesKept c) : a.causesKept c :=
  ⟨k.1.trans h.1, k.2.1.trans h.2.1, k.2.2.1.trans h.2.2.1, k.2.2.2.trans h.2.2.2⟩
theorem State.causesKept.of_pw {s t : State} (h : t.pw = s.pw) : s.causesKept t := by unfold State.causesKept; rw [h]; exact State.causesKept.rfl s

theorem State.checkAt_causes (p : WalkerPos) (st : ProgStep) (s : State) : s.causesKept (State.checkAt p st s) := by
  unfold State.checkAt; split <;> simp [State.causesKept]

theorem State.stateCheck_causes (s : State) : s.causesKept s.stateCheck := by
  unfold State.stateCheck; split
  · exact State.checkAt_causes _ _ _
  · exact .of_pw (by simp)

theorem State.setHolds_pw_holds (h : HoldSet) (s : State) : (State.setHolds h s).pw.holds.linkLost = h.linkLost
    ∧ (State.setHolds h s).pw.holds.meterLost = h.meterLost ∧ (State.setHolds h s).pw.holds.contactorFault = h.contactorFault
    ∧ (State.setHolds h s).pw.van = s.pw.van := by
  unfold State.setHolds State.checkWalking
  split
  · exact State.stateCheck_causes _
  · simp

theorem State.gateReport_causes (closed : Bool) (s : State) : s.causesKept (State.gateReport closed s) := State.setHolds_pw_holds _ _

theorem State.enterStep_causes (kind : StepKind) (s : State) : s.causesKept (State.enterStep kind s) := by
  unfold State.enterStep
  refine .trans ?_ (State.stateCheck_causes _)
  simp [State.causesKept, HoldSet.withGate]

theorem State.build_causes (plan : Plan) (van : AttachedVan) (st : VanStatus) (s : State) : s.causesKept (State.build plan van st s) := by
  unfold State.build; split
  · simp [State.buildDone, State.causesKept]
  · unfold State.buildWalk
    refine .trans ?_ (State.enterStep_causes _ _)
    simp [State.causesKept]

theorem State.buildOrAwait_causes (s : State) : s.causesKept s.buildOrAwait := by
  unfold State.buildOrAwait; split
  · exact State.build_causes _ _ _ _
  · simp [State.causesKept]

theorem State.afterStep_causes (p : WalkerPos) (st : ProgStep) (s : State) : s.causesKept (State.afterStep p st s) := by
  unfold State.afterStep
  (repeat' split)
  · exact .trans (by simp [State.causesKept]) (State.buildOrAwait_causes _)
  · simp [State.finish, State.causesKept]
  · unfold State.changeStep; exact .trans (by simp [State.causesKept]) (State.enterStep_causes _ _)
  · simp [State.finish, State.causesKept]

theorem State.endStep_causes (refusal : Bool) (s : State) : s.causesKept (State.endStep refusal s) := by
  unfold State.endStep
  split
  · exact .rfl _
  · refine .trans (.of_pw ?_) (State.afterStep_causes _ _ _)
    split <;> simp

theorem State.minuteRoll_causes (clockSet : Bool) (s : State) : s.causesKept (State.minuteRoll clockSet s) := by
  unfold State.minuteRoll
  (repeat' split) <;> first | exact State.buildOrAwait_causes _ | exact State.stateCheck_causes _ | exact .rfl _

theorem State.moveClock_causes (next : DepotClock) (s : State) : s.causesKept (State.moveClock next s) := by
  unfold State.moveClock; dsimp only
  (repeat' split) <;> first | exact .rfl _ | exact State.minuteRoll_causes _ _

theorem State.offerAnchor_causes (t : Nat) (s : State) : s.causesKept (State.offerAnchor t s) := by
  unfold State.offerAnchor
  (repeat' split) <;> first | exact .rfl _ | exact State.moveClock_causes _ _

theorem State.offerPeerTime_causes (t : Nat) (s : State) : s.causesKept (State.offerPeerTime t s) := by
  unfold State.offerPeerTime
  (repeat' split) <;> first | exact .rfl _ | exact State.moveClock_causes _ _

theorem State.takeStatus_causes (soc : Nat) (temp : Int) (s : State) : s.causesKept (State.takeStatus soc temp s) := by
  unfold State.takeStatus
  dsimp only
  (repeat' split) <;>
    first
      | exact .rfl _
      | exact State.buildOrAwait_causes (s.withPw { s.pw with status := some ⟨soc, temp⟩ })
      | exact State.endStep_causes _ (s.withPw { s.pw with status := some ⟨soc, temp⟩ })

theorem State.heaterRefused_causes (x : Heaters) (s : State) : s.causesKept (State.heaterRefused x s) := by
  unfold State.heaterRefused
  (repeat' split) <;> first | exact .rfl _ | exact .trans (.of_pw (by simp)) (State.endStep_causes _ _)

theorem State.countPulse_causes (s : State) : s.causesKept s.countPulse := by
  unfold State.countPulse
  dsimp only
  (repeat' split) <;> first | exact .rfl _ | exact .trans (by simp [State.causesKept]) (State.endStep_causes _ _)

theorem State.judgePlan_causes (plan : Plan) (s : State) : s.causesKept (State.judgePlan plan s) := by
  unfold State.judgePlan State.takePlan
  dsimp only
  (repeat' split) <;>
    first | exact .rfl _ | (simp [State.causesKept]; done) | exact .trans (by simp [State.causesKept]) (State.buildOrAwait_causes _)

theorem State.takeCancel_causes (tag : VanTag) (serial : Nat) (s : State) : s.causesKept (State.takeCancel tag serial s) := by
  unfold State.takeCancel
  split <;> simp [State.causesKept, HoldSet.withGate]

theorem State.adoptDefault_causes (s : State) : s.causesKept s.adoptDefault := by
  unfold State.adoptDefault
  exact .trans (by simp [State.causesKept]) (State.buildOrAwait_causes _)

/-! ## What being told leaves at Power Stage Control -/

/-- Being told the walker's view leaves the link view, the accept limit, the meter, the latches and the metering record. -/
theorem PowerStage.Told.kept {active : Bool} {a b : PowerStage} (h : PowerStage.Told active a b) :
    b.plugDetected = a.plugDetected ∧ b.linkWorking = a.linkWorking ∧ b.acceptLimit = a.acceptLimit ∧ b.meterLost = a.meterLost
      ∧ b.closeLatch = a.closeLatch ∧ b.weldLatch = a.weldLatch ∧ b.target = a.target ∧ b.shedHold = a.shedHold ∧ b.draw = a.draw
      ∧ b.updateTaken = a.updateTaken ∧ b.updateAge = a.updateAge ∧ b.closeMisses = a.closeMisses ∧ b.senseClosed = a.senseClosed := by
  induction h with
  | refl => simp
  | tell _ pw ih => simpa [PowerStage.takeView] using ih

end Sys2Proof.Machine
end

