-- ==== Sys2Proof/WellFormed.lean ====
section
/-! DEFINITION. The commands the outside world can send: the operands have the lengths and ranges the spec gives them. A command that is
not well formed stands for no event, and leaves the state as it is (log 1). -/

namespace Sys2Proof

/-- The image is 96 bytes of eight serial bits (R147). -/
def imageLengthOk (bits : List Bool) : Bool := decide (bits.length = 8 * 96)

/-- A whole header that failed has a sender id of 0 or 63 (R9). -/
def headerFailureOk : HeaderFailure → Bool
  | .framing => true
  | .badSender h => !Machine.validSender (Machine.headerSender h)

/-- PL watches the line for 500 microseconds after release (R114). -/
def fallTimeOk (fellAt : Option Nat) : Bool :=
  match fellAt with
  | none => true
  | some t => decide (t ≤ 500)

/-- The operand checks of a command. -/
def Instr.wellFormed (i : Instr) : Bool :=
  match i with
  | .imageReadComplete bits _ => imageLengthOk bits
  | .openingFailure f => headerFailureOk f
  | .linkResetResult fellAt _ => fallTimeOk fellAt
  | .identReply r => Machine.replyFits .ident r
  | .statusReply r => Machine.replyFits .status r
  | .heaterReply r => Machine.replyFits (.heater ⟨false, false⟩) r
  | _ => true

end Sys2Proof
end

