-- ==== Sys2Proof/Tests/Slice0.lean ====
section
/-! SUPPORT. Tests: the operand checks, worked figures of the spec, and for each statement with hypotheses a state and operands that meet
them together, one per clause, at the ends of the ranges. -/

namespace Sys2Proof.Machine.Tests

/-! ## Small states -/

/-- The image values of the worked sequences (04 section 4.10, 05 sections 5.6 and 5.7, 06 section 6.5), for bay 17. -/
def demoImage : List Byte :=
  [0x11, 0xDC, 0x00, 0x28, 0x00, 0x14, 0x00, 0x20, 0x03, 0x32, 0xC8, 0x00, 0x4C, 0x04, 0x84, 0x03, 0x01, 0x05, 0x0F, 0x00, 0x20, 0x03,
   0x6E, 0x00, 0x1E, 0x00, 0x14, 0x00, 0x01, 0x01, 0x04, 0x06]
  ++ [0xA4, 0x01, 0x58, 0x02, 0x01, 0x58, 0x02, 0xC0, 0x03, 0x06, 0xFC, 0x03, 0x1A, 0x04, 0x05, 0xC0, 0x03, 0x38, 0x04, 0x07]
  ++ List.replicate 40 0x00 ++ [0x30, 0x00, 0x22, 0x11]

/-- The same values, as the image's fields. -/
def demo : Settings where
  stationId := 17
  pBay := 220
  pMin := 40
  rampStep := 20
  cap := 800
  marginPermille := 50
  fallbackLoad := 200
  defaultDeparture := 1100
  defaultTarget := 900
  defaultCabin := true
  warmThreshold := 5
  warmAllotment := 15
  taperSoc := 800
  taperCeiling := 110
  cabinWindow := 30
  cabinAllotment := 20
  policyEnable := true
  mapEnable := true
  windowCount := 4
  defaultEntry := ⟨false, true, true⟩
  windows := [⟨420, 600, ⟨true, false, false⟩⟩, ⟨600, 960, ⟨false, true, true⟩⟩, ⟨1020, 1050, ⟨true, false, true⟩⟩,
    ⟨960, 1080, ⟨true, true, true⟩⟩] ++ List.replicate 8 ⟨0, 0, ⟨false, false, false⟩⟩
  classCodes := [0, 3, 0, 0, 2, 2, 1, 1]

/-- Bay 17 in ACTIVE with nothing else begun. -/
def bay : State := { State.reset with sl := ⟨.active, false, 17, false, StartUp.reset.memorySent⟩, cfg := demo }

/-- Bay 17 with its line in a state, some bytes taken and some frames queued; in SENDING it drives a header byte. -/
def lined (l : LineState) (buf : List Byte) (q : List QueueEntry) : State :=
  bay.withLi { bay.li with
    line := l, rxBuffer := buf, queue := q, output := if l = .sending then .frame (lineLevels 0x89) else .recessive }

/-- The same, with an image that was refused. -/
def faulty (l : LineState) (buf : List Byte) (q : List QueueEntry) : State :=
  (lined l buf q).withSl { bay.sl with config := .configFault, stationId := 255 }

/-- The state a command leaves. -/
def after (c : Instr) (s : State) : Option State :=
  match exec c s with
  | .next t => some t
  | _ => none

def clock (source : ClockSource) (time age : Nat) (s : State) : State := s.withDc ⟨time, 0, source, age⟩

def aClaim : OwnFrame := .claim ⟨58200, 150, 220, 682, 100, 1100, false⟩
def aReport : OwnFrame := .report ⟨.arrival, 0xA1#48, 0, 970⟩

def waits (f : OwnFrame) : QueueEntry := ⟨f, 0, false, false⟩
def onLine (f : OwnFrame) (retries : Nat) (replaced : Bool) : QueueEntry := ⟨f, retries, true, replaced⟩

/-- A frame as the part takes it: all bytes but the check byte, and the check byte. -/
def taken (cls id kind : Nat) (payload : List Byte) : List Byte := (frameBytes cls id kind payload).dropLast
def checkOf (buf : List Byte) : Byte := crc8 buf

def claimFrom (id : Nat) : List Byte := taken 2 id 1 (ClaimContents.payload ⟨58203, 80, 220, 400, 110, 0xFFFF, false⟩)
def siteFrame (overCap : Bool) : List Byte :=
  taken (if overCap then 0 else 1) 50 2 (leBytes 3 58195 ++ leBytes 2 120 ++ leBytes 2 900 ++ leBytes 1 (if overCap then 1 else 0))
def planFrame : List Byte :=
  taken 1 40 3 (leBytes 3 58226 ++ leBytes 6 0xA1 ++ leBytes 2 7 ++ leBytes 2 1130 ++ leBytes 2 900 ++ leBytes 1 1)
def cancelFrame (serial : Nat) : List Byte := taken 1 40 4 (leBytes 6 0xA1 ++ leBytes 2 serial)
def askFrame (target : Nat) : List Byte := taken 1 60 5 (leBytes 1 target)

def plan : Plan := ⟨0xA1#48, 7, 1130, 900, true⟩
def warm : ProgStep := ⟨.warmPack, 15, 220, none, false, false⟩
def bulk : ProgStep := ⟨.bulk, 225, 220, none, false, false⟩
def taper : ProgStep := ⟨.taper, 75, 110, none, false, false⟩
def cabin : ProgStep := ⟨.cabin, 20, 220, some 1100, true, true⟩

/-- The van of the worked build on its programme, at a step, in a walking state. -/
def walker (state : ProgState) (index remaining carry : Nat) : Walker :=
  { Walker.reset with
    state := state, van := some ⟨0xA1#48, 750⟩, status := some ⟨500, 2⟩, held := some plan, steps := [warm, bulk, taper, cabin],
    pos := some ⟨index, remaining, carry, false, false⟩ }

def awaiting (held : Option Plan) (status : Option VanStatus) : Walker :=
  { Walker.reset with
    state := .awaiting, van := some ⟨0xA1#48, 750⟩, status := status, held := held,
    defaultTimer := if held.isSome then .stopped else .running 300000 }

def walking (state : ProgState) (index remaining carry : Nat) : State :=
  clock .anchored 60000 0 (bay.withPw (walker state index remaining carry))

/-- A reply of a status alone, and a VALID one with data and its check value, each ended by a good stop slot. -/
def short (status : Byte) : LinkReply := ⟨writeSlots [status] ++ [false]⟩
def long (data : List Byte) : LinkReply := ⟨writeSlots (0x5A :: data ++ [crc8 (0x5A :: data)]) ++ [false]⟩

def identity : VanIdentity := ⟨0xA1#48, 750, 300⟩

/-- The plug link in a state, with an exchange in flight. -/
def linked (l : LinkState) (e : Option Exchange) : State :=
  bay.withPl { PlugLink.reset with
    contact := some true, plugClosed := true, link := l, identity := some identity, exchange := e, accept := 250 }

/-- Power Stage Control with its contactor CLOSED at a setpoint. -/
def drawing (setpoint target limit shedHold : Nat) : PowerStage :=
  { PowerStage.reset with
    setpoint := setpoint, target := target, acceptLimit := limit, shedHold := shedHold, plugDetected := true, linkWorking := true,
    viewState := .running, contactor := .isClosed, drive := true, updateAge := some 0, senseClosed := true }

/-! ## Operand checks: a command that is not well formed is refused by its check -/

theorem test_image_of_95_bytes_refused : Instr.wellFormed (.imageReadComplete (List.replicate 760 true) true) = false := by decide +kernel
theorem test_header_with_valid_sender_is_no_failure : Instr.wellFormed (.openingFailure (.badSender 0x89)) = false := by decide
theorem test_fall_after_500_refused : Instr.wellFormed (.linkResetResult (some 501) true) = false := by decide
theorem test_ident_of_9_bytes_refused : Instr.wellFormed (.identReply (long (List.replicate 9 0))) = false := by decide
theorem test_status_of_10_bytes_refused : Instr.wellFormed (.statusReply (long (List.replicate 10 0))) = false := by decide
theorem test_heater_with_data_refused : Instr.wellFormed (.heaterReply (long [0])) = false := by decide
theorem test_well_formed_commands : (Instr.imageReadComplete (serialBits demoImage) true).wellFormed = true
    ∧ Instr.wellFormed (.openingFailure (.badSender 0xFC)) = true ∧ Instr.wellFormed (.linkResetResult (some 500) true) = true
    ∧ Instr.wellFormed (.statusReply (long (List.replicate 6 0))) = true := by decide +kernel

/-! ## Worked figures of the spec -/

/-- 01 section 1.3: class 2, id 17. -/
theorem test_header_of_bay_17 : headerByte 2 17 = 0x89 ∧ headerClass 0x89 = 2 ∧ headerSender 0x89 = 17 := by decide

/-- 11 section 11.1: the worked check value, byte by byte. -/
theorem test_worked_check_value :
    crc8 [0x3E] = 0x73 ∧ crc8 [0x3E, 0x05] = 0x37 ∧ crc8 [0x3E, 0x05, 0x01] = 0x0C ∧ crc8 [0x3E, 0x05, 0x01, 0x00] = 0x24 := by decide

/-- 11 section 11.1: any bay takes that frame and queues a DIAG. -/
theorem test_worked_ask_queues_a_diag :
    (after (.diagAskReceived 0x24) (lined .receiving [0x3E, 0x05, 0x01, 0x00] [])).map (fun t => t.li.queue)
      = some [waits .diag] := by decide +kernel

/-- 11 section 11.3 and 09 section 9.8: the bytes of the image, and an image of a missing memory. -/
theorem test_image_read : readImage demoImage = demo ∧ imageValid demo = true
    ∧ imageValid (readImage (List.replicate 96 0xFF)) = false := by decide

/-- R147: the bits of the read command and of the first address byte, and a byte clocked in, most significant bit first. -/
theorem test_serial_bits_most_significant_first :
    serialBits [0x03, 0x00]
        = [false, false, false, false, false, false, true, true, false, false, false, false, false, false, false, false]
      ∧ serialBytes 1 [true, true, false, true, true, true, false, false] = [0xDC] := by decide

/-- 09 section 9.3: a weld found at power-on is reported on ACTIVE, and an image of 0xFF bytes ends in CONFIG-FAULT. -/
theorem test_image_read_complete :
    (after (.imageReadComplete (serialBits demoImage) true) (powerOn true true [])).map (fun t => (t.sl.config, t.li.queue, t.sc.claimTimer))
        = some (.active, [waits (.report ⟨.fault, 0, 5, 0xFFFF⟩)], .running 500)
      ∧ (after (.imageReadComplete (List.replicate 768 true) true) State.reset).map (fun t => (t.sl.config, t.cfg, t.pl.contact))
        = some (.configFault, .none, none) := by decide +kernel

/-- 01 section 1.8, "A bay's queue through a busy minute": ARRIVAL is displaced, the second DIAG-ASK merges. -/
theorem test_busy_queue :
    let fault := OwnFrame.report ⟨.fault, 0xA1#48, 3, 970⟩
    let q := [waits aClaim, waits aReport, waits (.report ⟨.planTaken, 0xA1#48, 7, 970⟩), waits .diag]
    queueFrame .diag (queueFrame fault q) = [waits aClaim, waits (.report ⟨.planTaken, 0xA1#48, 7, 970⟩), waits .diag, waits fault] := by
  decide

/-- 01 section 1.8: a CLAIM replaced on the line is sent with its old bytes and stays with its new contents. -/
theorem test_claim_replaced_on_the_line :
    let newer := OwnFrame.claim ⟨58204, 0, 0, 0, 0, 0xFFFF, false⟩
    let s := lined .sending [] (queueFrame newer [onLine aClaim 2 false, waits aReport])
    (after .frameSentWhole s).map (fun t => (t.li.queue, t.li.validCount)) = some ([waits newer, waits aReport], 1) := by decide

/-- 01 section 1.1: the line is left recessive on stopping, and the line clear after a mismatch is 24 bit times. -/
theorem test_line_left_recessive :
    let s := lined .sending [] [onLine aClaim 0 false]
    (after .arbitrationLoss s).map (fun t => t.li.output) = some .recessive
      ∧ (after .frameSentWhole s).map (fun t => t.li.output) = some .recessive
      ∧ (after .transmitMismatch s).map (fun t => (t.li.output, t.li.clearDriven)) = some (.recessive, 24) := by decide

/-- 07 section 7.3: a van out of its session reads as all 1 bits, a line shorted low as all 0 bits, and both are bad. -/
theorem test_no_van_and_short_are_bad :
    LinkReply.status ⟨List.replicate 9 true⟩ = 0xFF ∧ judgeReply .status ⟨List.replicate 9 true⟩ = .bad
      ∧ LinkReply.status ⟨List.replicate 9 false⟩ = 0x00 ∧ judgeReply .status ⟨List.replicate 9 false⟩ = .bad := by decide

/-- 02 section 2.6: a peer 2 s ahead is followed, one 2 s behind is not. -/
theorem test_peer_times :
    (State.offerPeerTime 58205 (clock .peer 58203 0 bay)).dc.time = 58205
      ∧ (State.offerPeerTime 58204 (clock .peer 58206 0 bay)).dc.time = 58206
      ∧ (State.offerPeerTime 3 (clock .peer 86398 0 bay)).dc.time = 3 := by decide

/-- 02 section 2.6: an anchor 15 s behind is adopted, one 1 s ahead only restarts the age. -/
theorem test_anchors :
    (State.offerAnchor 58195 (clock .peer 58210 0 bay)).dc = ⟨58195, 0, .anchored, 0⟩
      ∧ (State.offerAnchor 58226 (clock .anchored 58225 30 bay)).dc = ⟨58225, 0, .anchored, 0⟩ := by decide

/-- 03 section 3.8: the peers of the worked table after the expiry at 12.0 s, and the snapshot read at 12.5 s. -/
def peers : List PeerEntry :=
  [⟨7, 220, 220, 1000, 200, 1, false⟩, ⟨3, 110, 220, 500, 100, 1, false⟩, ⟨9, 80, 220, 400, 110, 3, true⟩,
   ⟨21, 40, 110, 364, 0, 1, false⟩, ⟨12, 60, 220, 273, 60, 1, false⟩, ⟨14, 0, 0, 0, 0, 1, false⟩]

theorem test_worked_snapshot : (PeerView.snapshot { PeerView.reset with entries := peers }) =
    { claimants := [⟨7, 220, 220, 1000⟩, ⟨3, 110, 220, 500⟩, ⟨21, 40, 110, 364⟩, ⟨12, 60, 220, 273⟩]
      nonClaimantDraw := 0
      staleDraw := 110
      unlistedDraw := 0 } := by decide

/-- 03 section 3.8: peer 9 heard again with ceiling 0 stands between 12 and 14, LIVE. -/
theorem test_peer_refreshed :
    (PeerView.takeClaim ⟨9, 0, 5, 0, 7, 110⟩ { PeerView.reset with entries := peers }).entries.map (fun e => (e.id, e.stale, e.urgency))
      = [(7, false, 1000), (3, false, 500), (21, false, 364), (12, false, 273), (9, false, 0), (14, false, 0)] := by decide

/-- 03 section 3.4: a peer reaches STALE at age 3 and leaves at age 8. -/
theorem test_tally :
    ageEntries [⟨9, 80, 220, 400, 110, 2, false⟩, ⟨40, 1, 1, 1, 1, 7, true⟩] = [⟨9, 80, 220, 400, 110, 3, true⟩] := by decide

/-- 04 section 4.10, "A winter shortfall": the own claim, the budget 530 and the share 150; bay 12 finds 10 and posts 0. -/
def winter : State :=
  { walking .running 1 175 0 with
    pv := { PeerView.reset with entries := peers }
    sc := { ShareComputer.reset with siteLoad := some 120, freshness := 3, claimTimer := .running 4000 }
    pl := (linked .ready none).pl
    cfg := { demo with policyEnable := false } }

theorem test_winter_shortfall :
    winter.expiryClaim = ⟨true, 150, 220, 682, false⟩ ∧ budgetOf winter.cfg winter.sc winter.pv.snapshot = 530 ∧ winter.expiryShare = 150
      ∧ ownShare { demo with stationId := 12 } ⟨true, 60, 220, 273, false⟩ 530
        [⟨7, 220, 220, 1000⟩, ⟨17, 150, 220, 682⟩, ⟨3, 110, 220, 500⟩, ⟨21, 40, 110, 364⟩] = 0 := by decide +kernel

/-- 04 section 4.10, "The same yard some periods later": shares 173, 147, 114, 63 and 220. -/
theorem test_same_yard :
    let all : List Claimant := [⟨7, 220, 220, 1000⟩, ⟨17, 150, 220, 682⟩, ⟨3, 110, 220, 500⟩, ⟨21, 40, 110, 364⟩, ⟨12, 60, 220, 273⟩]
    all.map (fun c => ownShare { demo with stationId := c.id } ⟨true, c.floor, c.ceiling, c.urgency, false⟩ 720
      (all.filter (fun x => decide (x.id ≠ c.id)))) = [220, 173, 147, 63, 114] := by decide

/-- 05 section 5.7, rows of the worked night: minutes 405, 420, 960, 1020, and the late lookup at 1050. -/
theorem test_worked_night :
    lookupPolicy demo ⟨.warmPack, false, some 2, true, 405⟩ = ⟨220, true⟩
      ∧ lookupPolicy demo ⟨.bulk, false, some 7, true, 420⟩ = ⟨40, false⟩
      ∧ lookupPolicy demo ⟨.taper, false, some 12, true, 960⟩ = ⟨40, true⟩
      ∧ lookupPolicy demo ⟨.taper, false, some 11, true, 1020⟩ = ⟨40, false⟩
      ∧ lookupPolicy demo ⟨.taper, true, some 10, true, 1050⟩ = ⟨110, true⟩ := by decide

/-- 06 section 6.5, the worked build. -/
theorem test_worked_build : buildSteps demo plan ⟨0xA1#48, 750⟩ ⟨500, 2⟩ = [warm, bulk, taper, cabin] := by decide

/-- 08 section 8.7: the ramp from 0, a lowered accept limit, and the shed of 170 at 900. -/
theorem test_setpoint_moves :
    ((drawing 0 0 250 0).takePosting demo 150).setpoint = 40 ∧ ((drawing 40 150 250 0).takePosting demo 150).setpoint = 60
      ∧ ((drawing 170 173 250 0).takePosting demo 173).setpoint = 173 ∧ ((drawing 173 173 250 0).takeAcceptLimit 40 120).setpoint = 120
      ∧ ((drawing 120 173 120 0).takeAcceptLimit 40 30).setpoint = 0
      ∧ (drawing 170 173 250 0).shed demo 900 = drawing 143 173 250 3 ∧ ((drawing 143 173 250 3).takePosting demo 173).setpoint = 143 := by
  decide

/-- 07 section 7.9: the plug closes, IDENT after presence, a BUSY reply, then READY and a STATUS in flight. -/
theorem test_van_plugged_in :
    (after .plugClosed (bay.withPl { PlugLink.reset with contact := some true, settle := .running 100 })).map
        (fun t => (t.pl.link, t.pl.output, t.ps.plugDetected)) = some (.resetting, .linkReset, true)
      ∧ (after (.linkResetResult (some 150) true) (bay.withPl { PlugLink.reset with
          plugClosed := true, link := .resetting, resetOnLine := true })).map
        (fun t => (t.pl.link, t.pl.output, t.pl.exchange)) = some (.identifying, .command [true, false, false, false, true, false, false, false], some ⟨.ident, 0, 0⟩)
      ∧ (after (.identReply (short 0x3C)) (linked .identifying (some ⟨.ident, 0, 0⟩))).map
        (fun t => (t.pl.exchange, t.pl.busyWait)) = some (some ⟨.ident, 1, 0⟩, .running 50)
      ∧ (let d := leBytes 6 0xA1 ++ leBytes 2 750 ++ leBytes 2 300
         after (.identReply (long d)) (linked .identifying (some ⟨.ident, 1, 0⟩))).map
        (fun t => (t.pl.link, t.pl.exchange, t.pw.state, t.pl.pollTimer))
          = some (.exchange, some ⟨.status, 0, 0⟩, .awaiting, .running 10000) := by decide +kernel

/-- 07 section 7.9: STATUS with SoC 500, 2 degrees, accept 250 and the ready flag; the accept power is handed on. -/
theorem test_status_taken :
    (let d := leBytes 2 500 ++ [0x02] ++ leBytes 2 250 ++ [0x01]
     after (.statusReply (long d))
       ((linked .exchange (some ⟨.status, 0, 0⟩)).withPw (awaiting none none))).map
      (fun t => (t.pl.link, t.pl.accept, t.ps.acceptLimit, t.pw.status)) = some (.ready, 250, 250, some ⟨500, 2⟩) := by decide +kernel

/-- 07 section 7.7, the table of R125: a STATUS at each build, one that forms no steps among them. -/
theorem test_build_without_steps_asks_status :
    let s := clock .anchored 58225 0 ((linked .lost none).withPw (awaiting (some { plan with cabin := false }) (some ⟨900, 5⟩)))
    s.buildOrAwait.pw.state = .done ∧ s.buildOrAwait.pl.wantStatus = true := by decide

/-- 07 section 7.9: the third failed exchange loses the link, with a FAULT report for the van. -/
theorem test_link_lost :
    (after (.statusReply (short 0xFF))
      (bay.withPl { (linked .exchange (some ⟨.status, 0, 2⟩)).pl with failures := 2 })).map
      (fun t => (t.pl.link, t.pl.wantStatus, t.pl.recoveryTimer, t.li.queue.map QueueEntry.frame))
        = some (.lost, true, .running 10000, [.report ⟨.fault, 0xA1#48, 2, 0xFFFF⟩]) := by decide

/-- 08 section 8.7: a close that is missed once waits 5 s, and the second miss sets the close latch. -/
theorem test_close_missed :
    let closing := { drawing 0 0 250 0 with contactor := .closing, senseTimer := .running 200, senseClosed := false }
    (after .closeSenseTimerExpiry (bay.withPs closing)).map (fun t => (t.ps.contactor, t.ps.retryWait, t.ps.closeMisses))
        = some (.isOpen, .running 5000, 1)
      ∧ (after .closeSenseTimerExpiry (bay.withPs { closing with closeMisses := 1 })).map
        (fun t => (t.ps.contactor, t.ps.closeLatch, t.pw.holds.contactorFault)) = some (.closeFault, true, true) := by decide

/-- 06 section 6.7: the hundredth pulse of the last unit ends WARM-PACK, and BULK begins with its whole amount. -/
theorem test_pulse_ends_step :
    (after .energyPulse (walking .running 0 1 99)).map (fun t => (t.pw.pos, t.pw.state, t.pw.delivered))
      = some (some ⟨1, 225, 0, true, false⟩, .running, 1) := by decide


/-! ## Witnesses: each statement's hypotheses hold together somewhere, one conjunct per clause -/

theorem witness_StepRunsFrontCommand : State.reset.pending = [] := by decide

theorem witness_ImageReadEndsInActiveOrConfigFault :
    (List.replicate 768 true).length = 768 ∧ (State.reset.sl.config = .loading ∧ demoImage.length = 96 ∧ imageValid (readImage demoImage) = true ∧ State.reset.ps.weldLatch = false)
      ∧ ((powerOn true true []).sl.config = .loading ∧ (powerOn true true []).ps.weldLatch = true)
      ∧ (let img : List Byte := List.replicate 96 0xFF
         State.reset.sl.config = .loading ∧ img.length = 96 ∧ imageValid (readImage img) = false) := by decide +kernel

theorem witness_ImageAcceptedWhenEveryCheckPasses : demoImage.length = 96 := by decide

theorem witness_AttemptBeginsWhenFreeToSend :
    let free (l : LineState) := lined l [] [waits aClaim]
    ((free .gap).sl.config ≠ .loading ∧ (free .gap).li.line = .gap ∧ (free .gap).li.stuck = false
        ∧ validSender (free .gap).sl.stationId = true ∧ (free .gap).li.queue = waits aClaim :: [])
      ∧ ((free .idle).sl.config ≠ .loading ∧ (free .idle).li.line = .idle ∧ (free .idle).li.stuck = false
        ∧ validSender (free .idle).sl.stationId = true ∧ (free .idle).li.queue = waits aClaim :: [])
      ∧ ((lined .gap [] []).li.stuck = false ∧ (lined .gap [] []).li.queue = [] ∧ (lined .gap [] []).li.line = .gap)
      ∧ ((faulty .gap [] [waits .diag]).sl.config ≠ .loading ∧ validSender (faulty .gap [] [waits .diag]).sl.stationId = false)
      ∧ ((lined .idle [] []).li.queue = [] ∧ (lined .idle [] []).li.line = .idle)
      ∧ ((lined .idle [] []).li.stuck = false ∧ queueFrame aReport (lined .idle [] []).li.queue = waits aReport :: [])
      ∧ bay.sl.config = .active ∧ (faulty .idle [] []).sl.config ≠ .active := by decide

theorem witness_CutAttemptsKeepOrDropTheFrame :
    let sent (retries : Nat) := lined .sending [] ([] ++ onLine aClaim retries false :: [waits aReport])
    ((sent 0).sl.config ≠ .loading ∧ (sent 0).li.line = .sending ∧ (∀ x ∈ [] ++ [waits aReport], x.onLine = false))
      ∧ (sent 1).li.queue = [] ++ onLine aClaim 1 false :: [waits aReport] ∧ (onLine aClaim 1 false).retries + 1 < 3
      ∧ (sent 2).li.queue = [] ++ onLine aClaim 2 false :: [waits aReport] ∧ 3 ≤ (onLine aClaim 2 false).retries + 1 := by decide

theorem witness_FramesSentWholeLeaveTheQueue :
    let claim := lined .sending [] ([] ++ onLine aClaim 2 true :: [waits aReport])
    let diag := lined .sending [] ([waits aClaim] ++ onLine .diag 0 false :: [])
    (claim.sl.config ≠ .loading ∧ claim.li.line = .sending ∧ claim.li.queue = [] ++ onLine aClaim 2 true :: [waits aReport]
        ∧ (onLine aClaim 2 true).onLine = true ∧ (∀ x ∈ [] ++ [waits aReport], x.onLine = false) ∧ aClaim ≠ .diag)
      ∧ (diag.sl.config ≠ .loading ∧ diag.li.line = .sending ∧ diag.li.queue = [waits aClaim] ++ onLine .diag 0 false :: []
        ∧ (onLine .diag 0 false).onLine = true ∧ (∀ x ∈ [waits aClaim] ++ [], x.onLine = false)
        ∧ (onLine .diag 0 false).frame = .diag ∧ (onLine .diag 0 false).replaced = false) := by decide

theorem witness_LineClearAndLineStuck :
    let stuck := bay.withLi { bay.li with line := .gap, stuck := true }
    ((lined .receiving [0x89] []).sl.config ≠ .loading ∧ (lined .receiving [0x89] []).li.line = .receiving
        ∧ (lined .receiving [0x89] []).li.rxBuffer ≠ [])
      ∧ ((lined .receiving [] []).li.line = .receiving ∧ (lined .receiving [] []).li.rxBuffer = [])
      ∧ (lined .idle [] []).li.line = .idle ∧ (lined .gap [] []).li.line = .gap
      ∧ (stuck.sl.config ≠ .loading ∧ stuck.li.line ≠ .sending ∧ stuck.li.stuck = true) := by decide

theorem witness_QueuedFramesTakeTheirPlaces :
    let one := [onLine aClaim 1 false]
    let three := [waits aReport, waits aReport, waits aReport]
    let full := [onLine aClaim 0 false] ++ waits aReport :: [waits .diag, waits aReport]
    let reports := [] ++ waits aReport :: [waits aReport, waits aReport, waits aReport]
    (one.Pairwise (fun a b => a.frame.cls ≤ b.frame.cls) ∧ one = [] ++ onLine aClaim 1 false :: []
        ∧ ∀ x ∈ ([] ++ [] : List QueueEntry), ∀ y, x.frame ≠ .claim y)
      ∧ (∃ x ∈ full, x.frame = .diag)
      ∧ (three.Pairwise (fun a b => a.frame.cls ≤ b.frame.cls) ∧ three.length < 4 ∧ (∀ x ∈ three, ∀ y, x.frame ≠ .claim y)
        ∧ ∀ x ∈ three, x.frame ≠ .diag)
      ∧ (full.Pairwise (fun a b => a.frame.cls ≤ b.frame.cls) ∧ full.length = 4 ∧ (waits aReport).frame.cls = 3
        ∧ (waits aReport).onLine = false ∧ ∀ x ∈ [onLine aClaim 0 false], x.frame.cls = 2 ∨ x.onLine = true)
      ∧ (reports.Pairwise (fun a b => a.frame.cls ≤ b.frame.cls) ∧ reports.length = 4 ∧ (∀ x ∈ reports, ∀ y, x.frame ≠ .claim y)
        ∧ ∀ x ∈ reports, x.frame ≠ .diag) := by
  simp [onLine, waits, aClaim, aReport, OwnFrame.cls]

theorem witness_HeaderAndCheckValueInLineOrder : ((3 : Nat) < 4 ∧ 1 ≤ (1 : Nat) ∧ (1 : Nat) ≤ 62) ∧ ((0 : Nat) < 4 ∧ 1 ≤ (62 : Nat) ∧ (62 : Nat) ≤ 62) := by
  decide

theorem witness_SentFramesCarryTheirFields :
    let c : ClaimContents := ⟨0xFFFFFF, 9999, 9999, 1000, 65535, 0xFFFF, true⟩
    validSender 1 = true ∧ validSender 62 = true
      ∧ c.time < 2 ^ 24 ∧ c.floor < 2 ^ 16 ∧ c.ceiling < 2 ^ 16 ∧ c.urgency < 2 ^ 16 ∧ c.draw < 2 ^ 16 := by decide

theorem witness_BytesJoinTheBufferOrDropTheFrame :
    let unknown : List Byte := [0x89, 0x63]
    let full : List Byte := [0x89, 0x05, 0x01]
    ((lined .receiving [] []).sl.config ≠ .loading ∧ (lined .receiving [] []).li.line = .receiving
        ∧ (lined .receiving [] []).li.rxBuffer = [] ∧ headerSender 0x81 = 1 ∧ headerSender 0x7C = 62)
      ∧ (lined .receiving [0x89] []).li.rxBuffer.length = 1
      ∧ ((lined .receiving unknown []).li.rxBuffer.length = 2 ∧ lengthFits (frameKind unknown) (24#8).toNat = true)
      ∧ (3 ≤ full.length ∧ full.length < 3 + frameLength full)
      ∧ headerSender 0x01 = 0 ∧ headerSender 0xFD = 63
      ∧ (lined .receiving [0x89] []).li.rxBuffer ≠ [] := by decide

theorem witness_RefusedAndUnownedFramesAreCounted :
    let long : List Byte := [0x89, 0x63]
    let empty : List Byte := [0x89, 0x63, 0x00]
    let report := taken 3 9 6 (ReportContents.payload ⟨.done, 0xA1#48, 0, 970⟩)
    let diag := taken 3 9 7 (List.replicate 6 0)
    ((lined .receiving long []).sl.config ≠ .loading ∧ (lined .receiving long []).li.line = .receiving
        ∧ long.length = 2 ∧ lengthFits (frameKind long) (25#8).toNat = false)
      ∧ (3 ≤ empty.length ∧ empty.length = 3 + frameLength empty ∧ crc8 empty ≠ crc8 empty + 1)
      ∧ frameExpected empty = false
      ∧ completesFrame 6 report (checkOf report) = true ∧ completesFrame 7 diag (checkOf diag) = true
      ∧ ((faulty .receiving (claimFrom 9) []).sl.config = .configFault ∧ completesFrame 1 (claimFrom 9) (checkOf (claimFrom 9)) = true)
      ∧ completesFrame 2 (siteFrame true) (checkOf (siteFrame true)) = true ∧ completesFrame 3 planFrame (checkOf planFrame) = true
      ∧ completesFrame 4 (cancelFrame 7) (checkOf (cancelFrame 7)) = true := by decide +kernel

theorem witness_DiagAskQueuesOneDiag :
    let s (target : Nat) := lined .receiving (askFrame target) []
    let field (target : Nat) := fieldAt (framePayload (askFrame target)) 0 1
    ((s 0).sl.config ≠ .loading ∧ (s 0).li.line = .receiving ∧ completesFrame 5 (askFrame 0) (checkOf (askFrame 0)) = true)
      ∧ field 0 = 0 ∧ field 17 = (s 17).sl.stationId ∧ (field 18 ≠ 0 ∧ field 18 ≠ (s 18).sl.stationId)
      ∧ completesFrame 5 (askFrame 17) (checkOf (askFrame 17)) = true ∧ completesFrame 5 (askFrame 18) (checkOf (askFrame 18)) = true := by
  decide +kernel

theorem witness_SecondsAdvanceTheClock :
    (State.reset.dc.time < 86400 ∧ State.reset.dc.source = .unset)
      ∧ (let s := clock .peer 86340 0 bay; s.dc.source ≠ .unset ∧ s.dc.time < 86400 ∧ s.dc.time % 60 ≠ 59)
      ∧ (let s := clock .anchored 86399 599 bay; s.dc.source ≠ .unset ∧ s.dc.time < 86400 ∧ s.dc.time % 60 = 59)
      ∧ (let s := clock .anchored 0 600 bay; s.dc.source = .anchored ∧ 600 ≤ s.dc.anchorAge)
      ∧ (let s := clock .anchored 0 599 bay; s.dc.anchorAge < 600) := by decide

theorem witness_OfferedTimesByTheShortWay :
    let d (t own : Nat) : Int := ((t : Int) - (own : Int)) % 86400
    ((86400 : Nat) ≤ 86400 ∧ (86400 : Nat) ≤ 0xFFFFFF)
      ∧ ((State.reset.dc.time < 86400 ∧ (86399 : Nat) < 86400) ∧ State.reset.dc.source = .unset)
      ∧ ((clock .anchored 86399 5 bay).dc.source ≠ .unset ∧ 2 ≤ d 1 86399 ∧ d 1 86399 ≤ 86398 ∧ 2 ≤ d 86397 86399 ∧ d 86397 86399 ≤ 86398)
      ∧ (d 86399 86399 < 2 ∧ d 0 86399 < 2 ∧ 86398 < d 86398 86399)
      ∧ ((clock .peer 86399 5 bay).dc.source = .peer ∧ 1 ≤ d 0 86399 ∧ d 43199 86399 = 43200)
      ∧ (d 5 5 < 1 ∧ 43200 < d 43200 86399)
      ∧ (clock .anchored 86399 5 bay).dc.source = .anchored := by decide

theorem witness_ClaimReachesViewThenClock :
    let own := lined .receiving (claimFrom 17) []
    let guarded := own.withPv { own.pv with conflictGuard := .running 60000 }
    ((lined .receiving (claimFrom 9) []).sl.config = .active ∧ (lined .receiving (claimFrom 9) []).li.line = .receiving
        ∧ completesFrame 1 (claimFrom 9) (checkOf (claimFrom 9)) = true ∧ (readClaim (claimFrom 9)).sender ≠ own.sl.stationId)
      ∧ (completesFrame 1 (claimFrom 17) (checkOf (claimFrom 17)) = true ∧ (readClaim (claimFrom 17)).sender = own.sl.stationId
        ∧ guarded.pv.conflictGuard.isRunning = true)
      ∧ own.pv.conflictGuard.isRunning = false := by decide +kernel

/-- A table of so many LIVE entries, ids 18 on. -/
def table (n : Nat) : List PeerEntry := (List.range n).map (fun i => ⟨i + 18, 0, 9999, 1000 - i, 9999, 1, false⟩)

/-- 03 section 3.9: 46 LIVE entries, and two STALE ones of the same age. -/
def aged : List PeerEntry := table 44 ++ [⟨1, 40, 40, 400, 10, 5, true⟩, ⟨2, 40, 40, 400, 10, 5, true⟩, ⟨3, 0, 0, 0, 0, 7, true⟩, ⟨4, 0, 0, 0, 0, 7, true⟩]

theorem witness_ViewTakesEveryPeerClaim :
    let view (l : List PeerEntry) : PeerView := { PeerView.reset with entries := l }
    let c (id : Nat) : RxClaim := ⟨id, 0, 80, 220, 400, 110⟩
    ((view (table 47)).tableOk 17 ∧ (c 18).sender ≠ 17 ∧ (∃ x ∈ table 47, x.id = (c 18).sender))
      ∧ ((∀ x ∈ table 47, x.id ≠ (c 5).sender) ∧ (table 47).length < 48)
      ∧ ((view aged).tableOk 17 ∧ (∀ x ∈ aged, x.id ≠ (c 5).sender) ∧ aged.length = 48
        ∧ ∃ old ∈ aged, old.stale = true ∧ ∀ y ∈ aged, y.stale = true → y.age < old.age ∨ (y.age = old.age ∧ y.id ≤ old.id))
      ∧ ((view (table 48)).tableOk 17 ∧ (∀ x ∈ table 48, x.id ≠ (c 5).sender) ∧ (table 48).length = 48
        ∧ ∀ y ∈ table 48, y.stale = false) := by
  unfold PeerView.tableOk PeerEntry.inRange
  dsimp only
  repeat' apply And.intro
  all_goals decide +kernel

theorem witness_TallyAgesEveryEntry :
    (bay.withPv { bay.pv with tallyTimer := .running 4000, entries := aged }).pv.tallyTimer.isRunning = true
      ∧ (bay.withPv { bay.pv with conflictGuard := .running 60000 }).pv.conflictGuard.isRunning = true := by decide

theorem witness_SiteFrameReachesItsBlocks :
    let s (overCap : Bool) := lined .receiving (siteFrame overCap) []
    ((s false).sl.config = .active ∧ (s false).li.line = .receiving
        ∧ completesFrame 2 (siteFrame false) (checkOf (siteFrame false)) = true ∧ (readSite (siteFrame false)).overCap = false)
      ∧ (completesFrame 2 (siteFrame true) (checkOf (siteFrame true)) = true ∧ (readSite (siteFrame true)).overCap = true) := by
  decide +kernel

theorem witness_OwnCeilingNeedAndClaim :
    bay.pw.state ≠ .running
      ∧ (winter.pw.state = .running ∧ winter.pw.atStep = some (⟨1, 175, 0, false, false⟩, bulk))
      ∧ bay.pw.energyNeed = 0
      ∧ (let late := clock .anchored 66000 0 winter; 0 < late.pw.energyNeed ∧ late.pw.deadline ≤ late.dc.minute)
      ∧ (0 < winter.pw.energyNeed ∧ winter.dc.minute < winter.pw.deadline)
      ∧ ((clock .unset 0 0 winter).dc.source = .unset ∧ 0 < (winter.withSc { winter.sc with conflictHold := 1 }).sc.conflictHold
        ∧ (winter.withPl { winter.pl with accept := 39 }).expiryCeiling = 0 ∧ bay.expiryRequired = 0)
      ∧ (winter.dc.source ≠ .unset ∧ winter.sc.conflictHold = 0 ∧ winter.expiryCeiling ≠ 0 ∧ winter.expiryRequired ≠ 0) := by
  decide +kernel

theorem witness_WalkerHandsNeedAndDeadline :
    Walker.reset.state.walking = false
      ∧ (let pw := walker .held 1 1 99
         pw.state.walking = true ∧ pw.steps = [warm] ++ bulk :: [taper, cabin] ∧ pw.pos = some ⟨1, 1, 99, false, false⟩ ∧ 1 = [warm].length
          ∧ pw.held = some plan ∧ pw.steps.Pairwise (fun a b => a.kind.code < b.kind.code)
          ∧ bulk.kind ≠ .cabin ∧ cabin ∈ [taper, cabin] ∧ cabin.kind = .cabin ∧ cabin.notBefore = some 1100)
      ∧ (let pw := { walker .running 2 75 0 with steps := [warm, bulk, taper] }
         pw.steps = [warm, bulk] ++ taper :: [] ∧ taper.kind ≠ .cabin ∧ (∀ x ∈ ([] : List ProgStep), x.kind ≠ .cabin) ∧ 2 = [warm, bulk].length)
      ∧ (let pw := walker .running 3 20 0
         pw.steps = [warm, bulk, taper] ++ cabin :: [] ∧ cabin.kind = .cabin ∧ 3 = [warm, bulk, taper].length) := by decide

theorem witness_BudgetFromTheSnapshot :
    (ShareComputer.reset.freshness = 0 ∧ demo.fallbackLoad = demo.fallbackLoad)
      ∧ (0 < winter.sc.freshness ∧ winter.sc.siteLoad = some 120) := by decide

theorem witness_OwnShareByCase :
    let own : OwnClaim := ⟨true, 150, 220, 500, false⟩
    let ahead : List Claimant := [⟨7, 220, 220, 1000⟩, ⟨3, 110, 220, 500⟩]
    let behind : List Claimant := [⟨21, 40, 110, 500⟩, ⟨12, 60, 220, 273⟩]
    let floors := ((ahead ++ behind).map Claimant.floor).sum + own.floor
    (OwnClaim.nonClaimant true).claimant = false
      ∧ (own.claimant = true ∧ (∀ x ∈ ahead, own.urgency < x.urgency ∨ (x.urgency = own.urgency ∧ x.id < demo.stationId))
        ∧ (∀ x ∈ behind, x.urgency < own.urgency ∨ (x.urgency = own.urgency ∧ demo.stationId < x.id))
        ∧ ∀ x ∈ ahead, x.id ≠ demo.stationId)
      ∧ floors ≤ 580 ∧ 579 < floors := by decide

theorem witness_ShareStaysInBounds :
    let floors (s : State) := s.expiryClaim.floor + ((s.pv.entries.filter (fun e => !e.stale && 0 < e.ceiling)).map PeerEntry.floor).sum
    let roomy := winter.withSc { winter.sc with siteLoad := some 40 }
    let quiet := roomy.withPv { roomy.pv with entries := [] }
    (∀ e ∈ winter.pv.entries, e.id ≠ winter.cfg.stationId) ∧ winter.expiryClaim.claimant = true
      ∧ budgetOf winter.cfg winter.sc winter.pv.snapshot < floors winter
      ∧ (quiet.expiryClaim.claimant = true ∧ floors quiet ≤ budgetOf quiet.cfg quiet.sc quiet.pv.snapshot) := by decide +kernel

theorem witness_SharesTogetherFitTheBudget :
    let l : List Claimant := [⟨7, 220, 220, 1000⟩, ⟨3, 110, 220, 500⟩, ⟨17, 150, 220, 500⟩]
    let cfg (c : Claimant) : Settings := { demo with stationId := c.id }
    l.Pairwise (fun a b => standsBefore a.urgency a.id b.urgency b.id = true) ∧ l.Pairwise (fun a b => a.id ≠ b.id)
      ∧ ∀ x ∈ l, x.floor ≤ x.ceiling ∧ (cfg x).stationId = x.id := by decide

theorem witness_ClaimPeriodExpiryPostsClaimsAndStores :
    winter.sc.claimTimer.isRunning = true
      ∧ (winter.pw.current = some (⟨1, 175, 0, false, false⟩, bulk))
      ∧ (let held := winter.withSc { winter.sc with conflictHold := 1 }; 0 < held.sc.conflictHold)
      ∧ (let idle := bay.withSc { bay.sc with claimTimer := .running 500 }; idle.sc.claimTimer.isRunning = true ∧ idle.pw.current = none)
      ∧ (let late := clock .anchored 66000 0 winter
         late.sl.config = .active ∧ late.expiryClaim.atRisk = true ∧ late.sc.own.atRisk = false) := by decide +kernel

theorem witness_SetpointMovesByPostingLimitAndShed :
    (PowerStage.reset.contactor ≠ .isClosed)
      ∧ ((drawing 0 0 250 0).contactor = .isClosed ∧ (drawing 0 0 250 0).meterLost = false)
      ∧ (40 < (drawing 41 150 250 0).setpoint)
      ∧ ((drawing 0 0 250 0).setpoint < 1 ∧ (drawing 0 0 250 0).shedHold = 0 ∧ (drawing 0 0 250 0).setpoint = 0)
      ∧ ((drawing 40 0 250 0).setpoint < 41 ∧ (drawing 40 0 250 0).setpoint ≠ 0)
      ∧ ((drawing 40 0 250 1).setpoint < 41 ∧ 0 < (drawing 40 0 250 1).shedHold)
      ∧ (drawing 40 0 250 0).setpoint = 40 := by decide

theorem witness_PolicyLookupAnswers :
    let i (minute : Nat) : LookupInput := ⟨.bulk, false, some 7, true, minute⟩
    ({ demo with policyEnable := false }.policyEnable = false ∧ demo.policyEnable = true ∧ demo.mapEnable = true
        ∧ { demo with mapEnable := false }.mapEnable = false ∧ (i 0).clockSet = true)
      ∧ ((2 : Nat) < demo.windowCount ∧ demo.windows[2]? = some ⟨1020, 1050, ⟨true, false, true⟩⟩ ∧ 1020 ≤ (i 1020).minute
        ∧ (i 1049).minute < 1050 ∧ demo.windows[0]? = some ⟨420, 600, ⟨true, false, false⟩⟩
        ∧ demo.windows[1]? = some ⟨600, 960, ⟨false, true, true⟩⟩)
      ∧ (∀ v ∈ demo.windows.take 2, ¬ (v.startMinute ≤ (i 1020).minute ∧ (i 1020).minute < v.stopMinute))
      ∧ (∀ w ∈ demo.windows.take demo.windowCount, ¬ (w.startMinute ≤ (i 1080).minute ∧ (i 1080).minute < w.stopMinute))
      ∧ demo.classCodes.length = 8 := by decide

theorem witness_BuildFormsTheSteps : { plan with target := 1000 }.target ≤ 1000 := by decide

theorem witness_BuildEntersTheFirstStep :
    let s := clock .anchored 58225 0 (bay.withPw (awaiting (some plan) (some ⟨500, 2⟩)))
    (s.pw.held = some plan ∧ s.pw.van = some ⟨0xA1#48, 750⟩ ∧ s.pw.status = some ⟨500, 2⟩ ∧ s.dc.source ≠ .unset)
      ∧ buildSteps s.cfg plan ⟨0xA1#48, 750⟩ ⟨500, 2⟩ = warm :: [bulk, taper, cabin]
      ∧ buildSteps s.cfg { plan with cabin := false } ⟨0xA1#48, 750⟩ ⟨900, 5⟩ = []
      ∧ (bay.withPw (awaiting (some plan) (some ⟨500, 2⟩))).dc.source = .unset ∧ (awaiting (some plan) none).status = none := by decide

theorem witness_StateCheckTakesTheFirstCase :
    let gated := (walking .running 0 15 0).withPw { walker .running 0 15 0 with holds := ⟨true, false, false, false⟩ }
    let marked := (walking .running 0 15 0).withPw { walker .running 0 15 0 with pos := some ⟨0, 15, 0, true, true⟩ }
    (gated.pw.atStep = some (⟨0, 15, 0, false, false⟩, warm) ∧ gated.pw.holds.holding = true)
      ∧ ((walking .waiting 3 20 0).pw.atStep = some (⟨3, 20, 0, false, false⟩, cabin) ∧ cabin.notBefore = some 1100
        ∧ (clock .anchored 65999 0 (walking .waiting 3 20 0)).dc.time / 60 < 1100)
      ∧ ((clock .anchored 66000 0 (walking .waiting 3 20 0)).dc.time / 60 = 1100 ∧ cabin.kind = .cabin)
      ∧ (marked.pw.atStep = some (⟨0, 15, 0, true, true⟩, warm) ∧ warm.notBefore = none)
      ∧ (walking .held 1 225 0).pw.state.walking = true := by decide

/-- The first part of StateCheckTakesTheFirstCase, the minute rolls: an AWAITING state of the invariant that waits for the clock, one without
a plan, one without a status, and one neither walking nor AWAITING. -/
theorem witness_minute_rolls :
    let waiting (held : Option Plan) (status : Option VanStatus) := bay.withPw (awaiting held status)
    (waiting (some plan) (some ⟨500, 2⟩)).pw.ok
      ∧ ((waiting (some plan) (some ⟨500, 2⟩)).pw.state = .awaiting ∧ (waiting (some plan) (some ⟨500, 2⟩)).pw.held.isSome = true
        ∧ (waiting (some plan) (some ⟨500, 2⟩)).pw.status.isSome = true)
      ∧ (waiting none (some ⟨500, 2⟩)).pw.held = none ∧ (waiting (some plan) none).pw.status = none
      ∧ (bay.pw.state.walking = false ∧ bay.pw.state ≠ .awaiting) := by
  refine ⟨?_, by decide⟩
  show (awaiting (some plan) (some ⟨500, 2⟩)).ok
  simp [Walker.ok, Walker.slotOk, Walker.programmeOk, Walker.stateOk, awaiting, plan, ProgState.walking, HoldSet.holding, Walker.reset,
    Timer.isRunning]

theorem witness_PulsesCountEnergyAndEndSteps :
    bay.pw.state.walking = false
      ∧ ((walking .running 0 15 98).pw.state.walking = true ∧ (walking .running 0 15 98).pw.atStep = some (⟨0, 15, 98, false, false⟩, warm)
        ∧ (98 : Nat) + 1 < 100)
      ∧ ((walking .held 0 2 99).pw.atStep = some (⟨0, 2, 99, false, false⟩, warm) ∧ 100 ≤ (99 : Nat) + 1 ∧ 1 < (2 : Nat))
      ∧ ((walking .waiting 0 1 99).pw.atStep = some (⟨0, 1, 99, false, false⟩, warm) ∧ (1 : Nat) ≤ 1)
      ∧ ((walking .running 0 1 0).withPw { walker .running 0 1 0 with revision := some { plan with serial := 8 } }).pw.revision
        = some { plan with serial := 8 }
      ∧ ((walking .running 3 1 0).pw.revision = none ∧ (walking .running 3 1 0).pw.atStep = some (⟨3, 1, 0, false, false⟩, cabin)
        ∧ cabin.last = true)
      ∧ (warm.last = false ∧ (walking .running 0 1 0).pw.steps[0 + 1]? = some bulk) := by decide

theorem witness_PlansAreJudgedAndTaken :
    let aborted := bay.withPw { Walker.reset with state := .aborted, van := some ⟨0xA1#48, 750⟩, cancelled := some 7 }
    ((lined .receiving planFrame []).sl.config = .active ∧ (lined .receiving planFrame []).li.line = .receiving
        ∧ completesFrame 3 planFrame (checkOf planFrame) = true)
      ∧ bay.pw.state = .empty
      ∧ ((walking .running 0 15 0).pw.van = some ⟨0xA1#48, 750⟩ ∧ (0xA1#48 : VanTag) ≠ { plan with tag := 0xB2#48 }.tag)
      ∧ ((walking .running 0 15 0).pw.state ≠ .empty ∧ (0xA1#48 : VanTag) = plan.tag)
      ∧ (1440 ≤ { plan with departure := 1440 }.departure ∧ { plan with departure := 1439 }.departure < 1440)
      ∧ ((walking .held 0 15 0).pw.state ≠ .aborted ∧ (walking .held 0 15 0).pw.held = some plan ∧ plan.serial ≤ plan.serial)
      ∧ (aborted.pw.state = .aborted ∧ aborted.pw.cancelled = some 7 ∧ plan.serial ≤ 7)
      ∧ ((walking .running 0 15 0).pw.state = .running ∧ (walking .running 0 15 0).pw.revision = none
        ∧ plan.serial < { plan with serial := 8 }.serial)
      ∧ ((walking .held 0 15 0).pw.state ≠ .running ∧ (7 : Nat) < { plan with serial := 8 }.serial) := by decide +kernel

theorem witness_CancelsAndTheDefaultPlan :
    let s := (lined .receiving (cancelFrame 7) []).withPw (walker .running 0 15 0)
    let waiting := bay.withPw (awaiting none none)
    (s.sl.config = .active ∧ s.li.line = .receiving ∧ completesFrame 4 (cancelFrame 7) (checkOf (cancelFrame 7)) = true
        ∧ s.pw.van = some ⟨0xA1#48, 750⟩ ∧ s.pw.held = some plan ∧ (0xA1#48 : VanTag) = readCancelTag s.li.rxBuffer
        ∧ plan.serial ≤ readCancelSerial s.li.rxBuffer)
      ∧ (completesFrame 4 (cancelFrame 6) (checkOf (cancelFrame 6)) = true ∧ readCancelSerial (cancelFrame 6) < plan.serial)
      ∧ (lined .receiving (cancelFrame 7) []).pw.held = none
      ∧ (waiting.pw.state = .awaiting ∧ waiting.pw.held = none ∧ waiting.pw.van = some ⟨0xA1#48, 750⟩
        ∧ waiting.pw.defaultTimer.isRunning = true) := by decide +kernel

theorem witness_VansComeAndGoAtTheWalker :
    bay.pw.state = .empty ∧ (bay.withPw (awaiting none none)).pw.state ≠ .empty
      ∧ ((walking .held 1 225 0).pw.state.walking = true ∧ (walking .held 1 225 0).pw.van.isSome = true) ∧ bay.pw.van = none
      ∧ (let s := bay.withPw (awaiting none none); s.pw.state.walking = false ∧ s.pw.van.isSome = true)
      ∧ (let s := bay.withPw { walker .done 3 0 0 with state := .done }; s.pw.state.walking = false ∧ s.pw.van.isSome = true) := by
  decide

theorem witness_PlugContactAndPlugClosed :
    (bay.withPl { PlugLink.reset with contact := some (!true) }).pl.contact = some (!true) ∧ bay.sl.config = .active
      ∧ (linked .ready none).pl.contact = some (!false)
      ∧ (let s := bay.withPl { PlugLink.reset with contact := some true, settle := .running 100 }
         s.pl.settle.isRunning = true ∧ s.pl.contact = some true ∧ s.pl.plugClosed = false) := by decide

theorem witness_PlugOpenClearsTheVan :
    let leaving (ps : PowerStage) := (bay.withPl { (linked .exchange (some ⟨.status, 0, 0⟩)).pl with
      contact := some false, settle := .running 100 }).withPs ps
    ((leaving (drawing 150 150 250 0)).pl.settle.isRunning = true ∧ (leaving (drawing 150 150 250 0)).pl.contact = some false
        ∧ (leaving (drawing 150 150 250 0)).pl.plugClosed = true)
      ∧ ((leaving { PowerStage.reset with contactor := .closeFault, closeLatch := true }).ps.contactor = .closeFault
        ∧ PowerStage.reset.weldLatch = false)
      ∧ (leaving { PowerStage.reset with contactor := .opening .sense }).ps.contactor = .opening .sense := by decide

/-- The ends of the presence range: a fall at 60 and at 240 is presence, at 59 and at 241 it is not. -/
theorem witness_presence_ends :
    let present (fellAt : Option Nat) := ∃ n, fellAt = some n ∧ 60 ≤ n ∧ n ≤ 240 ∧ true = true
    present (some 60) ∧ present (some 240) ∧ ¬ present (some 59) ∧ ¬ present (some 241) ∧ ¬ present none := by simp

theorem witness_LinkResetsFindPresence :
    let resetting (misses : Nat) := bay.withPl { (linked .resetting none).pl with resetOnLine := true, misses := misses }
    let lost := bay.withPl { (linked .lost none).pl with resetOnLine := true, recoveryTimer := .running 10000 }
    ((resetting 4).pl.resetOnLine = true ∧ (resetting 4).pl.link = .resetting ∧ (resetting 4).pl.misses + 1 ≤ 5)
      ∧ 6 ≤ (resetting 5).pl.misses + 1
      ∧ (lost.pl.resetOnLine = true ∧ lost.pl.link = .lost ∧ lost.pl.recoveryTimer.isRunning = true)
      ∧ (let s := bay.withPl { (linked .resetting none).pl with resetWait := .running 1000 }
         s.pl.link = .resetting ∧ s.pl.resetWait.isRunning = true) := by decide

theorem witness_LostLinkHoldsAndReports :
    let s := (linked .exchange none).withPw (walker .running 1 225 0)
    s.pw.van.isSome = true ∧ s.pw.state.walking = true ∧ s.pw.atStep ≠ none ∧ s.sl.config = .active := by decide

theorem witness_RepliesAreJudged :
    let good := long (List.replicate 6 0)
    let spoilt : LinkReply := ⟨writeSlots (0x5A :: List.replicate 7 0xFF) ++ [false]⟩
    (LinkReply.stopSlot ⟨List.replicate 9 true⟩ = true)
      ∧ ((⟨List.replicate 9 false⟩ : LinkReply).stopSlot = false ∧ (⟨List.replicate 9 false⟩ : LinkReply).status = 0x00)
      ∧ (good.status = 0x5A ∧ good.stopSlot = false ∧ crc8 (good.status :: good.data) = good.check)
      ∧ (spoilt.status = 0x5A ∧ spoilt.stopSlot = false ∧ crc8 (spoilt.status :: spoilt.data) ≠ spoilt.check)
      ∧ ((short 0x3C).status = 0x3C ∧ (short 0x3C).stopSlot = false) ∧ (short 0x66).status = 0x66
      ∧ (short 0x66).slots = writeSlots [0x66] ++ [false]
      ∧ good.slots = writeSlots ([0x5A] ++ List.replicate 6 0 ++ [crc8 (0x5A :: List.replicate 6 0)]) ++ [false] := by decide +kernel

theorem witness_BusyBadAndFailedExchanges :
    let s (l : LinkState) (c : LinkCommand) (busy bad failures : Nat) :=
      bay.withPl { (linked l (some ⟨c, busy, bad⟩)).pl with failures := failures }
    let busy : LinkReply := short 0x3C
    let bad : LinkReply := short 0xFF
    let heater : LinkCommand := .heater ⟨true, false⟩
    ((s .exchange .status 7 0 0).pl.exchange = some ⟨.status, 7, 0⟩ ∧ (s .exchange .status 7 0 0).pl.busyWait.isRunning = false
        ∧ replyFits .status busy = true ∧ judgeReply .status busy = .busy ∧ (7 : Nat) + 1 ≤ 8)
      ∧ (judgeReply heater bad = .bad ∧ replyFits heater bad = true ∧ (1 : Nat) + 1 ≤ 2 ∧ 3 ≤ (2 : Nat) + 1 ∧ 9 ≤ (8 : Nat) + 1)
      ∧ ((s .lost .ident 8 0 0).pl.link = .lost ∧ judgeReply .ident busy = .busy ∧ replyFits .ident busy = true)
      ∧ ((s .identifying .ident 0 2 1).pl.link ≠ .lost ∧ (s .identifying .ident 0 2 1).pl.failures + 1 < 3)
      ∧ ((s .exchange heater 0 2 1).pl.failures + 1 < 3 ∧ heater ≠ .ident)
      ∧ 3 ≤ (s .exchange heater 0 2 2).pl.failures + 1
      ∧ judgeReply .status (short 0x66) = .refused := by decide

theorem witness_ValidIdentMakesTheLinkReady :
    let d (tag : Nat) := leBytes 6 tag ++ leBytes 2 3001 ++ leBytes 2 10000
    let r (tag : Nat) : LinkReply := long (d tag)
    ((linked .identifying (some ⟨.ident, 1, 0⟩)).pl.exchange = some ⟨.ident, 1, 0⟩
        ∧ (linked .identifying (some ⟨.ident, 1, 0⟩)).pl.busyWait.isRunning = false ∧ replyFits .ident (r 0xA1) = true
        ∧ judgeReply .ident (r 0xA1) = .valid ∧ (linked .identifying none).pl.link ≠ .lost)
      ∧ ((linked .lost none).pl.link = .lost ∧ (linked .lost none).pl.identity.map VanIdentity.tag = some (readIdentity (d 0xA1)).tag)
      ∧ (linked .lost none).pl.identity.map VanIdentity.tag ≠ some (readIdentity (d 0xB2)).tag := by decide +kernel

theorem witness_ValidStatusReachesItsBlocks :
    let s := linked .exchange (some ⟨.status, 0, 0⟩)
    let d := leBytes 2 1001 ++ [0x80] ++ leBytes 2 10000 ++ [0x07]
    let r : LinkReply := long d
    (s.pl.exchange = some ⟨.status, 0, 0⟩ ∧ s.pl.busyWait.isRunning = false ∧ replyFits .status r = true ∧ judgeReply .status r = .valid)
      ∧ s.pw.van = none
      ∧ (let a := s.withPw (awaiting (some plan) none); a.pw.van.isSome = true ∧ a.pw.state = .awaiting)
      ∧ (let w := s.withPw (walker .running 0 15 0); w.pw.van.isSome = true ∧ w.pw.state ≠ .awaiting) := by decide +kernel

theorem witness_CompletedHeaterExchange :
    let h : Heaters := ⟨true, false⟩
    let s := linked .exchange (some ⟨.heater h, 0, 0⟩)
    let w := s.withPw (walker .running 0 15 0)
    (s.pl.exchange = some ⟨.heater h, 0, 0⟩ ∧ s.pl.busyWait.isRunning = false ∧ replyFits (.heater h) (short 0x5A) = true
        ∧ judgeReply (.heater h) (short 0x5A) = .valid)
      ∧ (judgeReply (.heater h) (short 0x66) = .refused ∧ w.pw.state.walking = true
        ∧ w.pw.atStep = some (⟨0, 15, 0, false, false⟩, warm) ∧ warm.kind = .warmPack ∧ h.pack = true)
      ∧ (s.pw.current = none ∧ replyFits (.heater h) (short 0x66) = true) := by decide

theorem witness_RequestsBeginExchanges :
    let ready := bay.withPl { (linked .ready none).pl with wantStatus := true, wantHeater := some ⟨true, false⟩ }
    let status := bay.withPl { (linked .ready none).pl with wantStatus := true }
    let busy := bay.withPl { (linked .exchange (some ⟨.status, 1, 0⟩)).pl with busyWait := .running 50 }
    let paused := bay.withPl { (linked .ready none).pl with wantStatus := true, pause := .running 1000, pollTimer := .running 10000 }
    (ready.pl.link = .ready ∧ ready.pl.pause.isRunning = false ∧ ready.pl.wantHeater = some ⟨true, false⟩)
      ∧ (status.pl.wantHeater = none ∧ status.pl.wantStatus = true) ∧ (linked .ready none).pl.wantStatus = false
      ∧ busy.pl.link ≠ .ready ∧ (busy.pl.exchange = some ⟨.status, 1, 0⟩ ∧ busy.pl.busyWait.isRunning = true)
      ∧ paused.pl.pause.isRunning = true ∧ (paused.pl.pollTimer.isRunning = true ∧ paused.pl.link ≠ .unplugged)
      ∧ (ready.pl.link ≠ .unplugged ∧ ready.pl.exchange.map Exchange.command ≠ some .status)
      ∧ busy.pl.exchange.map Exchange.command = some .status ∧ bay.pl.link = .unplugged := by decide

/-- Power Stage Control of a van on the link, with its contactor in a state. -/
def contactorIn (c : Contactor) (sense : Bool) : PowerStage := { drawing 0 0 250 0 with contactor := c, senseClosed := sense }

theorem witness_ContactorFollowsTheWant :
    let unwanted (c : Contactor) (sense : Bool) := { contactorIn c sense with linkWorking := false }
    ((contactorIn .isOpen false).wanted true = true ∧ (contactorIn .isOpen false).retryWait.isRunning = false)
      ∧ ({ contactorIn .isOpen true with retryWait := .running 5000 }.wanted true = true ∧ (contactorIn .isOpen true).senseClosed = true)
      ∧ ((contactorIn .closing false).wanted true = true ∧ (contactorIn .closing false).contactor ≠ .isOpen)
      ∧ ((unwanted .closing false).wanted true = false ∧ (unwanted .closing false).contactor = .closing)
      ∧ ((unwanted .isClosed true).wanted true = false ∧ (unwanted .isClosed true).meterLost = false
        ∧ { unwanted .isClosed true with draw := 4 }.draw < 5 ∧ 5 ≤ { unwanted .isClosed true with draw := 5 }.draw)
      ∧ ((unwanted .isOpen false).wanted true = false ∧ (unwanted .isOpen false).contactor ≠ .closing
        ∧ (unwanted .isOpen false).contactor ≠ .isClosed) := by decide

theorem witness_ContactorSenseTimersAndLatches :
    let s (c : Contactor) (sense : Bool) := bay.withPs { contactorIn c sense with
      senseTimer := .running 200, drawWait := .running 2000, retryWait := .running 5000 }
    (s .closing false).ps.contactor = .closing ∧ (s .isOpen false).ps.contactor ≠ .closing ∧ (s .isClosed true).ps.contactor = .isClosed
      ∧ (s (.opening .sense) true).ps.contactor = .opening .sense
      ∧ ((s .closing false).ps.closeMisses = 0 ∧ { contactorIn .closing false with closeMisses := 1 }.closeMisses ≠ 0)
      ∧ (s .closing false).ps.senseTimer.isRunning = true ∧ (s .isOpen false).ps.retryWait.isRunning = true
      ∧ ((s (.opening .draw) true).ps.drawWait.isRunning = true ∧ (s (.opening .draw) true).ps.contactor = .opening .draw
        ∧ (s (.opening .draw) true).ps.senseClosed = true ∧ (s (.opening .draw) false).ps.senseClosed = false) := by decide

theorem witness_MeterUpdatesAndMeterLost :
    let s := bay.withPs { contactorIn (.opening .draw) true with meterLost := true }
    (bay.sl.config = .active ∧ bay.ps.contactor ≠ .opening .draw)
      ∧ (s.sl.config = .active ∧ s.ps.contactor = .opening .draw ∧ 5 ≤ (5 : Nat) ∧ (4 : Nat) < 5) ∧ bay.ps.meterLost = false := by decide

/-! ### The invariants, each in a state that is in the midst of work -/

theorem witness_LineInvariantKept :
    let s := { lined .sending [] [onLine aClaim 2 true, waits aReport, waits .diag] with pending := [.transmitMismatch] }
    s.lineOk ∧ ∃ t, step s = .next t := by
  refine ⟨?_, _, rfl⟩
  unfold State.lineOk LineInterface.queueOk LineInterface.countsOk LineInterface.bufferOk LineInterface.outputOk
  decide

theorem witness_ViewInvariantKept :
    let s := { bay.withPv { PeerView.reset with entries := peers, tallyTimer := .running 4000 } with pending := [.tallyExpiry] }
    s.viewOk ∧ ∃ t, step s = .next t := by
  refine ⟨?_, _, rfl⟩
  unfold State.viewOk PeerView.tableOk PeerEntry.inRange
  decide

theorem witness_StartInvariantKept :
    winter.sl.config ≠ .loading ∧ (∀ b, Instr.claimPeriodExpiry ≠ .powerUp b ∧ Instr.claimPeriodExpiry ≠ .brownOut b)
      ∧ ((faulty .idle [] []).sl.config ≠ .active) ∧ bay.startOk ∧ ∃ t, exec .claimPeriodExpiry bay = .next t := by
  refine ⟨by decide, by simp, by decide, ?_, _, rfl⟩
  unfold State.startOk
  decide

theorem witness_SetpointInvariantKept :
    let s := { winter.withPs (drawing 40 150 250 0) with pending := [.claimPeriodExpiry] }
    s.viewOk ∧ s.setpointOk ∧ ∃ t, step s = .next t ∧ s.ps.setpoint < t.ps.setpoint := by
  refine ⟨?_, ?_, _, rfl, ?_⟩
  · unfold State.viewOk PeerView.tableOk PeerEntry.inRange
    decide +kernel
  · unfold State.setpointOk PowerStage.setpointOk
    decide
  · decide +kernel

theorem witness_ContactorInvariantKept :
    let s := { winter.withPs (drawing 150 150 250 0) with pending := [.senseReadsOpen] }
    s.ps.contactorOk s.active ∧ ∃ t, step s = .next t := by
  refine ⟨?_, _, rfl⟩
  unfold PowerStage.contactorOk
  decide

theorem witness_WalkerInvariantKept :
    let s := { walking .running 0 1 99 with pending := [.energyPulse] }
    s.pw.ok ∧ ∃ t, step s = .next t := by
  refine ⟨?_, _, rfl⟩
  show (walker .running 0 1 99).ok
  simp [Walker.ok, Walker.slotOk, Walker.programmeOk, Walker.stateOk, walker, warm, bulk, taper, cabin, plan,
    StepKind.code, ProgState.walking, HoldSet.holding, Walker.reset, Timer.isRunning]

/-- The link in EXCHANGE with a van on its programme, as the other blocks know it. -/
def exchanging : State :=
  (winter.withPl { (linked .exchange (some ⟨.status, 8, 2⟩)).pl with failures := 2, pollTimer := .running 10000 }).withPs
    (drawing 150 150 250 0)

theorem witness_LinkInvariantKept :
    let s := { exchanging with pending := [.statusReply (short 0x3C)] }
    s.linkOk ∧ ∃ t, step s = .next t := by
  refine ⟨?_, _, rfl⟩
  simp [State.linkOk, PlugLink.linkOk, PlugLink.settleOk, exchangeFits, exchanging, linked, LinkState.working, PlugLink.reset,
    Timer.isRunning, winter, walking, clock, bay, State.withPl, State.withPs, State.withPw, State.withDc]

theorem witness_ViewsOfEachOtherKept :
    let s := { exchanging with pending := [.statusReply (short 0x3C)] }
    s.linkOk ∧ s.viewsAgree ∧ ∃ t, step s = .next t := by
  refine ⟨witness_LinkInvariantKept.1, ?_, _, rfl⟩
  unfold State.viewsAgree
  decide

theorem witness_ClockAndShareCountsKept :
    (winter.dc.timeOk ∧ winter.dc.source ≠ .unset ∧ winter.sc.countsOk)
      ∧ (∀ b, Instr.oscillatorSecond ≠ .powerUp b ∧ Instr.oscillatorSecond ≠ .brownOut b) ∧ ∃ t, exec .oscillatorSecond winter = .next t := by
  refine ⟨?_, by simp, _, rfl⟩
  unfold DepotClock.timeOk ShareComputer.countsOk
  decide

theorem witness_InvariantsHoldAfterReset :
    State.reset = State.reset ∧ exec (.powerUp true) State.reset = .next (powerOn false true []) := ⟨rfl, rfl⟩

end Sys2Proof.Machine.Tests
end

section
/-! PROOFS. The depot line (spec chapter 01): where a queued frame goes (R20 to R23), and the header, the check value and the levels of a
byte on the line (R1, R7, R8). -/

namespace Sys2Proof.Machine

/-! ## The class and the kind of a queued frame -/

/-- The part sends frames of classes 2 and 3 only, and a CLAIM is the one of class 2. -/
theorem QueueEntry.cls_eq (e : QueueEntry) : e.frame.cls = if e.isClaim then 2 else 3 := by
  unfold QueueEntry.isClaim
  cases e.frame <;> rfl

theorem QueueEntry.isClaim_eq_false_iff (e : QueueEntry) : e.isClaim = false ↔ ∀ c, e.frame ≠ .claim c := by
  unfold QueueEntry.isClaim
  cases e.frame <;> simp

theorem QueueEntry.isDiag_iff (e : QueueEntry) : e.isDiag = true ↔ e.frame = .diag := by
  unfold QueueEntry.isDiag
  cases e.frame <;> simp

/-! ## Putting a frame in by class (R20) -/

theorem insertEntry_eq_append {e : QueueEntry} {q : List QueueEntry} (h : ∀ x ∈ q, x.frame.cls ≤ e.frame.cls) :
    insertEntry e q = q ++ [e] := by
  have hle : ∀ x ∈ q, decide (x.frame.cls ≤ e.frame.cls) = true := by simpa using h
  rw [insertEntry, List.takeWhile_eq_self_iff.mpr hle, List.dropWhile_eq_nil_iff.mpr hle]

theorem insertEntry_eq_cons {e : QueueEntry} {q : List QueueEntry} (h : ∀ x ∈ q, e.frame.cls < x.frame.cls) :
    insertEntry e q = e :: q := by
  cases q with
  | nil => rfl
  | cons x xs => simp [insertEntry, h x List.mem_cons_self]

/-! ## Making room (R23) -/

theorem displace_sublist (q : List QueueEntry) : (displace q).Sublist q := by
  unfold displace
  split
  · exact List.Sublist.refl q
  · exact List.eraseP_sublist

theorem displace_of_room {q : List QueueEntry} (h : q.length < 4) : displace q = q := if_pos h

/-- A full queue loses the first REPORT or DIAG off the line, which is the oldest of its class. -/
theorem displace_of_full {before after : List QueueEntry} {e : QueueEntry} (hfull : (before ++ e :: after).length = 4)
    (hcls : e.frame.cls = 3) (hoff : e.onLine = false) (hbefore : ∀ x ∈ before, x.frame.cls = 2 ∨ x.onLine = true) :
    displace (before ++ e :: after) = before ++ after := by
  have hkept : ∀ x ∈ before, ¬ x.displaceable = true := by
    intro x hx
    have := hbefore x hx
    rw [QueueEntry.cls_eq] at this
    simpa [QueueEntry.displaceable, or_iff_not_imp_left] using this
  have hlost : e.displaceable = true := by
    rw [QueueEntry.cls_eq] at hcls
    simpa [QueueEntry.displaceable, hoff] using hcls
  rw [displace, if_neg (by omega), List.eraseP_append_right _ hkept, List.eraseP_cons_of_pos hlost]

/-! ## Queueing a frame (R20 to R23) -/

/-- A REPORT or DIAG is of the highest class the part sends, so it joins at the end. -/
theorem joinQueue_eq_append {f : OwnFrame} (h : f.cls = 3) (q : List QueueEntry) :
    joinQueue f q = displace q ++ [.fresh f] :=
  insertEntry_eq_append fun x _ => by
    rw [QueueEntry.cls_eq, QueueEntry.fresh, h]
    split <;> omega

theorem queueFrame_claim_of_absent (c : ClaimContents) {q : List QueueEntry} (h : ∀ x ∈ q, ∀ y, x.frame ≠ .claim y) :
    queueFrame (.claim c) q = .fresh (.claim c) :: displace q := by
  have hno : ∀ x ∈ q, x.isClaim = false := fun x hx => x.isClaim_eq_false_iff.mpr (h x hx)
  have hbehind : ∀ x ∈ displace q, (QueueEntry.fresh (.claim c)).frame.cls < x.frame.cls := by
    intro x hx
    rw [x.cls_eq, hno x ((displace_sublist q).subset hx)]
    exact Nat.lt_succ_self 2
  have hany : ¬ q.any QueueEntry.isClaim = true := by simpa using hno
  rw [queueFrame, if_neg hany, joinQueue, insertEntry_eq_cons hbehind]

theorem queueFrame_diag_of_absent {q : List QueueEntry} (h : ∀ x ∈ q, x.frame ≠ .diag) :
    queueFrame .diag q = displace q ++ [.fresh .diag] := by
  have hany : ¬ q.any QueueEntry.isDiag = true := by simpa [QueueEntry.isDiag_iff] using h
  rw [queueFrame, if_neg hany, joinQueue_eq_append rfl]

theorem queueFrame_diag_of_queued {q : List QueueEntry} (h : ∃ x ∈ q, x.frame = .diag) : queueFrame .diag q = q := by
  have hany : q.any QueueEntry.isDiag = true := by simpa [QueueEntry.isDiag_iff] using h
  rw [queueFrame, if_pos hany]

theorem queueFrame_report (r : ReportContents) (q : List QueueEntry) :
    queueFrame (.report r) q = displace q ++ [.fresh (.report r)] := joinQueue_eq_append rfl q

/-- No entry but a CLAIM is changed by newer CLAIM contents (R21). -/
theorem map_replaceClaim_of_absent (c : ClaimContents) {q : List QueueEntry} (h : ∀ x ∈ q, ∀ y, x.frame ≠ .claim y) :
    q.map (QueueEntry.replaceClaim c) = q := by
  refine (List.map_congr_left fun x hx => ?_).trans (List.map_id q)
  simp [QueueEntry.replaceClaim, x.isClaim_eq_false_iff.mpr (h x hx)]

theorem queueFrame_claim_of_queued (c : ClaimContents) {old : ClaimContents} {before after : List QueueEntry} {e : QueueEntry}
    (he : e.frame = .claim old) (h : ∀ x ∈ before ++ after, ∀ y, x.frame ≠ .claim y) :
    queueFrame (.claim c) (before ++ e :: after) = before ++ ⟨.claim c, 0, e.onLine, e.onLine⟩ :: after := by
  have hclaim : e.isClaim = true := by simp [QueueEntry.isClaim, he]
  have hany : (before ++ e :: after).any QueueEntry.isClaim = true := by simp [hclaim]
  have hbefore := map_replaceClaim_of_absent c fun x hx => h x (List.mem_append_left after hx)
  have hafter := map_replaceClaim_of_absent c fun x hx => h x (List.mem_append_right before hx)
  rw [queueFrame, if_pos hany, List.map_append, List.map_cons, hbefore, hafter, QueueEntry.replaceClaim, if_pos hclaim]

/-- A frame that neither replaces nor merges joins what `displace` leaves: a CLAIM in front, any other frame at the end. -/
theorem queueFrame_joins_of_displace {q room : List QueueEntry} (h : displace q = room) :
    (∀ c, (∀ x ∈ q, ∀ y, x.frame ≠ .claim y) → queueFrame (.claim c) q = .fresh (.claim c) :: room)
      ∧ ((∀ x ∈ q, x.frame ≠ .diag) → queueFrame .diag q = room ++ [.fresh .diag])
      ∧ ∀ r, queueFrame (.report r) q = room ++ [.fresh (.report r)] :=
  h ▸ ⟨fun c => queueFrame_claim_of_absent c, queueFrame_diag_of_absent, fun r => queueFrame_report r q⟩

/-- Settles O9, by what `displace` leaves of a queue with room and of a full one. -/
theorem queuedFramesTakeTheirPlaces : Obligations.QueuedFramesTakeTheirPlaces := by
  intro q _
  refine ⟨?replaced, queueFrame_diag_of_queued, fun hroom => queueFrame_joins_of_displace (displace_of_room hroom), ?full⟩
  case replaced =>
    rintro c old before after e rfl he h
    exact queueFrame_claim_of_queued c he h
  case full =>
    rintro before after e rfl hfull hcls hoff hbefore
    exact queueFrame_joins_of_displace (displace_of_full hfull hcls hoff hbefore)

/-! ## The header (R7) -/

theorem bitWeight_eq_mul (b : Bool) (i : Nat) : bitWeight b i = 2 ^ i * bitWeight b 0 := by
  cases b <;> simp [bitWeight]

/-- The bits of a header byte, first on the line first: the class from its higher bit down, then the sender id from its 32 bit down. -/
def headerBits (cls id : Nat) : List Bool :=
  [cls.testBit 1, cls.testBit 0, id.testBit 5, id.testBit 4, id.testBit 3, id.testBit 2, id.testBit 1, id.testBit 0]

theorem headerByte_eq_slotByte (cls id : Nat) : headerByte cls id = slotByte (headerBits cls id) := by
  unfold headerByte slotByte
  congr 1
  simp only [headerBits, List.take, slotNat]
  rw [bitWeight_eq_mul _ 1, bitWeight_eq_mul _ 2, bitWeight_eq_mul _ 3, bitWeight_eq_mul _ 4, bitWeight_eq_mul _ 5,
    bitWeight_eq_mul _ 6, bitWeight_eq_mul _ 7]
  omega

theorem dataBits_headerByte (cls id : Nat) : dataBits (headerByte cls id) = headerBits cls id := by
  rw [headerByte_eq_slotByte, dataBits_slotByte rfl]

theorem getLsbD_headerByte (cls id : Nat) {i : Nat} (h : i < 8) :
    (headerByte cls id).getLsbD i = (headerBits cls id).getD i false := by
  rw [← dataBits_headerByte]
  simp [dataBits, List.getD, h]

theorem headerClass_headerByte {cls : Nat} (id : Nat) (h : cls < 4) : headerClass (headerByte cls id) = cls := by
  have digits : ∀ cls < 4, bitWeight (Nat.testBit cls 1) 1 + bitWeight (Nat.testBit cls 0) 0 = cls := by decide
  unfold headerClass
  simp (disch := decide) only [getLsbD_headerByte]
  exact digits cls h

theorem headerSender_headerByte (cls : Nat) {id : Nat} (h : id < 64) : headerSender (headerByte cls id) = id := by
  have digits : ∀ id < 64, bitWeight (Nat.testBit id 5) 5 + bitWeight (Nat.testBit id 4) 4 + bitWeight (Nat.testBit id 3) 3
      + bitWeight (Nat.testBit id 2) 2 + bitWeight (Nat.testBit id 1) 1 + bitWeight (Nat.testBit id 0) 0 = id := by decide
  unfold headerSender
  simp (disch := decide) only [getLsbD_headerByte]
  exact digits id h

/-! ## The check value and the levels on the line (R1, R8) -/

/-- The check register takes the data bits of the bytes in line order, without regard to where a byte ends. -/
theorem crc8_eq_foldl_bits (bs : List Byte) : crc8 bs = (bs.flatMap dataBits).foldl crcFeedBit 0#8 :=
  List.foldl_flatMap.symm

theorem checkAgrees_iff (taken : List Byte) (check : Byte) : checkAgrees taken check = true ↔ crc8 taken = check := decide_eq_true_iff

/-- Settles O10: the header goes out as `headerBits`, and the check value is formed over the bits of all bytes. -/
theorem headerAndCheckValueInLineOrder : Obligations.HeaderAndCheckValueInLineOrder := by
  refine ⟨fun cls id hcls _ hid => ⟨dataBits_headerByte cls id, headerClass_headerByte id hcls, ?sender⟩,
    crc8_eq_foldl_bits, fun _ _ _ _ => rfl, checkAgrees_iff, fun _ => rfl, frameLevels_cons⟩
  case sender => exact headerSender_headerByte cls (by omega)

end Sys2Proof.Machine
end

section
/-! PROOFS. The peer view (spec chapter 03): what a peer's CLAIM makes of the table (R35, R40 to R43), and that every command keeps the
table in order (R36). -/

namespace Sys2Proof.Machine

/-! ## Entries and their ids (R36) -/

/-- In a table with no id twice an entry is known by its id. -/
theorem eq_of_id_eq {l : List PeerEntry} (hids : l.Pairwise (fun a b => a.id ≠ b.id)) {x y : PeerEntry} (hx : x ∈ l) (hy : y ∈ l)
    (h : x.id = y.id) : x = y :=
  List.inj_on_of_nodup_map (List.pairwise_map.mpr hids) hx hy h

theorem dropId_eq_self {id : Nat} {l : List PeerEntry} (h : ∀ x ∈ l, x.id ≠ id) : dropId id l = l := by
  simpa [dropId] using h

/-- Dropping the id of an entry takes exactly that entry out. -/
theorem dropId_length_add_one {l : List PeerEntry} (hids : l.Pairwise (fun a b => a.id ≠ b.id)) {x : PeerEntry} (hx : x ∈ l) :
    (dropId x.id l).length + 1 = l.length := by
  induction l with
  | nil => simp at hx
  | cons y ys ih =>
    obtain ⟨hy, hys⟩ := List.pairwise_cons.mp hids
    by_cases h : y.id = x.id
    · have hrest : dropId x.id ys = ys := dropId_eq_self fun z hz => h ▸ (hy z hz).symm
      have hdrop : dropId x.id (y :: ys) = dropId x.id ys := by simp [dropId, h]
      rw [hdrop, hrest, List.length_cons]
    · have hin : x ∈ ys := (List.mem_cons.mp hx).resolve_left fun hxy => h (congrArg PeerEntry.id hxy.symm)
      have hdrop : dropId x.id (y :: ys) = y :: dropId x.id ys := by simp [dropId, h]
      rw [hdrop, List.length_cons, List.length_cons, ih hys hin]

theorem dropId_mem_of_mem {l : List PeerEntry} (hids : l.Pairwise (fun a b => a.id ≠ b.id)) {old : PeerEntry} (hold : old ∈ l)
    (x : PeerEntry) : x ∈ dropId old.id l ↔ x ∈ l ∧ x ≠ old := by
  rw [dropId_mem]
  exact and_congr_right fun hx => not_congr ⟨eq_of_id_eq hids hx hold, congrArg PeerEntry.id⟩

/-- R42's choice is unique: the greatest age and then the highest id leave one STALE entry. -/
theorem evictee_eq_some {l : List PeerEntry} (hids : l.Pairwise (fun a b => a.id ≠ b.id)) {old : PeerEntry} (hold : old ∈ l)
    (hstale : old.stale = true)
    (hmax : ∀ y ∈ l, y.stale = true → y.age < old.age ∨ (y.age = old.age ∧ y.id ≤ old.id)) : evictee l = some old := by
  obtain ⟨e, he⟩ := Option.ne_none_iff_exists'.mp (evictee_ne_none ⟨old, hold, hstale⟩)
  obtain ⟨hmem, hst, hge⟩ := evictee_spec he
  have hid : e.id = old.id := by
    have := hmax e hmem hst
    have := hge old hold hstale
    omega
  rw [he, eq_of_id_eq hids hmem hold hid]

/-! ## A CLAIM taken into the view (R40 to R43) -/

section
variable {pv : PeerView} {c : RxClaim}

theorem PeerView.takeClaim_of_known (h : ∃ x ∈ pv.entries, x.id = c.sender) :
    pv.takeClaim c = { pv with entries := placeEntry (peerEntryOf c) (dropId c.sender pv.entries) } := by
  have hany : pv.entries.any (fun x => decide (x.id = c.sender)) = true := by simpa using h
  exact if_pos hany

theorem PeerView.takeClaim_of_new (h : ∀ x ∈ pv.entries, x.id ≠ c.sender) :
    pv.takeClaim c = if pv.entries.length < 48 then { pv with entries := placeEntry (peerEntryOf c) pv.entries }
      else match evictee pv.entries with
        | some old => { pv with entries := placeEntry (peerEntryOf c) (dropId old.id pv.entries) }
        | none => { pv with unlistedDraw := min (pv.unlistedDraw + (peerEntryOf c).draw) 9999 } := by
  have hany : ¬ pv.entries.any (fun x => decide (x.id = c.sender)) = true := by simpa using h
  exact if_neg hany

theorem PeerView.takeClaim_of_room (h : ∀ x ∈ pv.entries, x.id ≠ c.sender) (hroom : pv.entries.length < 48) :
    pv.takeClaim c = { pv with entries := placeEntry (peerEntryOf c) pv.entries } := by
  rw [PeerView.takeClaim_of_new h, if_pos hroom]

theorem PeerView.takeClaim_of_evictee (h : ∀ x ∈ pv.entries, x.id ≠ c.sender) (hfull : pv.entries.length = 48) {old : PeerEntry}
    (hold : evictee pv.entries = some old) :
    pv.takeClaim c = { pv with entries := placeEntry (peerEntryOf c) (dropId old.id pv.entries) } := by
  rw [PeerView.takeClaim_of_new h, if_neg (by omega), hold]

theorem PeerView.takeClaim_of_no_evictee (h : ∀ x ∈ pv.entries, x.id ≠ c.sender) (hfull : pv.entries.length = 48)
    (hlive : evictee pv.entries = none) :
    pv.takeClaim c = { pv with unlistedDraw := min (pv.unlistedDraw + (peerEntryOf c).draw) 9999 } := by
  rw [PeerView.takeClaim_of_new h, if_neg (by omega), hlive]

theorem PeerView.takeClaim_timers (pv : PeerView) (c : RxClaim) :
    (pv.takeClaim c).tallyTimer = pv.tallyTimer ∧ (pv.takeClaim c).conflictGuard = pv.conflictGuard := by
  unfold PeerView.takeClaim
  dsimp only
  (repeat' split) <;> exact ⟨rfl, rfl⟩

end

theorem clamp_eq_min (x top : Nat) : (if top < x then top else x) = min x top := by
  split <;> omega

/-- The adjustments of R35 with each bound written as a comparison. -/
theorem peerEntryOf_eq (c : RxClaim) :
    let ceiling := if 9999 < c.ceiling then 9999 else c.ceiling
    let floor := if 9999 < c.floor then 9999 else c.floor
    ({ id := c.sender, floor := if ceiling < floor then ceiling else floor, ceiling := ceiling,
       urgency := if ceiling = 0 then 0 else if 1000 < c.urgency then 1000 else c.urgency,
       draw := if 9999 < c.draw then 9999 else c.draw, age := 0, stale := false } : PeerEntry) = peerEntryOf c := by
  have hfloor : min (min c.floor 9999) (min c.ceiling 9999)
      = if min c.ceiling 9999 = 0 then 0 else min (min c.floor 9999) (min c.ceiling 9999) := by
    split <;> omega
  simp only [clamp_eq_min, peerEntryOf]
  rw [← hfloor]

/-- Settles O18, by the cases of R40 to R43: the sender is in the table, there is room, one STALE entry gives way, or all are LIVE. -/
theorem viewTakesEveryPeerClaim : Obligations.ViewTakesEveryPeerClaim := by
  intro own pv c hok hc ceiling floor e pv'
  have he : e = peerEntryOf c := peerEntryOf_eq c
  clear_value e
  subst he
  obtain ⟨_, _, hids, _, _⟩ := (PeerView.tableOk_iff own pv).mp hok
  obtain ⟨htally, hguard⟩ := pv.takeClaim_timers c
  refine ⟨PeerView.takeClaim_tableOk hok hc, htally, hguard, ?known, ?room, ?full⟩
  case known =>
    rintro ⟨x, hx, hxc⟩
    have hput : pv' = _ := PeerView.takeClaim_of_known ⟨x, hx, hxc⟩
    rw [hput, ← hxc]
    exact ⟨rfl, (placeEntry_length _ _).trans (dropId_length_add_one hids hx),
      fun y => (placeEntry_mem _ y _).trans (or_congr_right (dropId_mem _ y _))⟩
  case room =>
    intro hnew hroom
    have hput : pv' = _ := PeerView.takeClaim_of_room hnew hroom
    rw [hput]
    exact ⟨rfl, placeEntry_length _ _, fun y => placeEntry_mem _ y _⟩
  case full =>
    refine fun hnew hfull => ⟨fun old hold hstale hmax => ?_, fun hlive => ?_⟩
    · have hput : pv' = _ := PeerView.takeClaim_of_evictee hnew hfull (evictee_eq_some hids hold hstale hmax)
      rw [hput]
      exact ⟨rfl, ((placeEntry_length _ _).trans (dropId_length_add_one hids hold)).trans hfull,
        fun y => (placeEntry_mem _ y _).trans (or_congr_right (dropId_mem_of_mem hids hold y))⟩
    · have hadd : pv' = _ := PeerView.takeClaim_of_no_evictee hnew hfull (evictee_eq_none hlive)
      rw [hadd]
      exact ⟨rfl, (clamp_eq_min _ _).symm⟩

/-! ## What the view's invariant rests on (R36, R51) -/

/-- What the view's invariant reads is the same in two states: the configuration state, the two station ids and the view. -/
def State.keepsView (s t : State) : Prop :=
  t.sl.config = s.sl.config ∧ t.sl.stationId = s.sl.stationId ∧ t.cfg = s.cfg ∧ t.pv = s.pv

/-- The table's order asks for its entries and the accumulator, not for the view's timers. -/
theorem PeerView.tableOk_of_entries {own : Nat} {pv pv' : PeerView} (h : pv.tableOk own) (hentries : pv'.entries = pv.entries)
    (hdraw : pv'.unlistedDraw = pv.unlistedDraw) : pv'.tableOk own := by
  rw [PeerView.tableOk_iff] at h ⊢
  rwa [hentries, hdraw]

/-- An empty table is in order for every own id. -/
theorem PeerView.tableOk_of_empty {pv : PeerView} (own : Nat) (hempty : pv.entries = []) (hdraw : pv.unlistedDraw ≤ 9999) :
    pv.tableOk own := by
  simp [PeerView.tableOk_iff, hempty, hdraw]

theorem PeerView.clearUnlisted_tableOk {own : Nat} {pv : PeerView} (h : pv.tableOk own) : pv.clearUnlisted.tableOk own := by
  obtain ⟨hlen, hord, hids, hin, _⟩ := (PeerView.tableOk_iff own pv).mp h
  exact (PeerView.tableOk_iff _ _).mpr ⟨hlen, hord, hids, hin, Nat.zero_le _⟩

section
variable {s t : State}

/-- The invariant after a command that leaves the configuration state and the station ids: what is left to show is the table. -/
theorem State.viewOk_of_table (h : s.viewOk) (hsl : t.sl.config = s.sl.config) (hid : t.sl.stationId = s.sl.stationId)
    (hcfg : t.cfg = s.cfg) (htable : s.pv.tableOk s.sl.stationId → t.pv.tableOk s.sl.stationId)
    (hempty : s.sl.config ≠ .active → s.pv.entries = [] → t.pv.entries = []) : t.viewOk := by
  obtain ⟨hok, hown, hnone⟩ := h
  unfold State.viewOk
  rw [hsl, hid, hcfg]
  exact ⟨htable hok, hown, fun hne => hempty hne (hnone hne)⟩

theorem State.viewOk_of_keepsView (h : s.viewOk) (hkeep : s.keepsView t) : t.viewOk := by
  obtain ⟨hsl, hid, hcfg, hpv⟩ := hkeep
  exact State.viewOk_of_table h hsl hid hcfg (fun hok => hpv ▸ hok) (fun _ hnone => hpv ▸ hnone)

end

/-! ## The commands that write the view -/

theorem powerOn_viewOk (brownOut senseClosed : Bool) (waiting : List Instr) : (powerOn brownOut senseClosed waiting).viewOk :=
  ⟨PeerView.tableOk_of_empty _ rfl (Nat.zero_le _), fun h => ConfigState.noConfusion h, fun _ => rfl⟩

section
variable {s : State}

/-- What an accepted image makes of the blocks the view's invariant reads (R149). -/
theorem State.enterActive_blocks (c : Settings) (contactClosed : Bool) (s : State) :
    (s.enterActive c contactClosed).sl = s.sl.afterRead .active c.stationId
      ∧ (s.enterActive c contactClosed).cfg = c
      ∧ (s.enterActive c contactClosed).pv = { s.pv with tallyTimer := .running 4000 } := by
  unfold State.enterActive
  dsimp only
  split <;> simp

/-- In ACTIVE the own id is the image's, and the table an image finds is empty (R149). -/
theorem State.enterActive_viewOk (c : Settings) (contactClosed : Bool) (hempty : s.pv.entries = []) (hdraw : s.pv.unlistedDraw ≤ 9999) :
    (s.enterActive c contactClosed).viewOk := by
  obtain ⟨hsl, hcfg, hpv⟩ := State.enterActive_blocks c contactClosed s
  unfold State.viewOk
  rw [hsl, hcfg, hpv]
  exact ⟨PeerView.tableOk_of_empty _ hempty hdraw, fun _ => rfl, fun _ => hempty⟩

theorem State.enterConfigFault_viewOk (stationId : Nat) (hempty : s.pv.entries = []) (hdraw : s.pv.unlistedDraw ≤ 9999) :
    (s.enterConfigFault stationId).viewOk :=
  ⟨PeerView.tableOk_of_empty _ hempty hdraw, fun h => ConfigState.noConfusion h, fun _ => hempty⟩

/-- An image is judged in LOADING, where the table is still empty (R51). -/
theorem State.judgeImage_viewOk (image : List Byte) (contactClosed : Bool) (h : s.viewOk) (hloading : s.loading = true) :
    (s.judgeImage image contactClosed).viewOk := by
  obtain ⟨⟨_, _, _, _, hdraw⟩, _, hnone⟩ := h
  have hconfig : s.sl.config = .loading := of_decide_eq_true hloading
  have hempty : s.pv.entries = [] := hnone (by simp [hconfig])
  unfold State.judgeImage
  split
  · exact State.enterActive_viewOk _ contactClosed hempty hdraw
  · exact State.enterConfigFault_viewOk _ hempty hdraw

/-- An id conflict leaves the table (R38): it starts the guard and no more. -/
theorem State.idConflict_table (s : State) :
    s.idConflict.pv.entries = s.pv.entries ∧ s.idConflict.pv.unlistedDraw = s.pv.unlistedDraw := by
  unfold State.idConflict
  dsimp only
  split <;> simp

/-- A CLAIM handed to the view never brings in the own id (R38). -/
theorem State.viewClaim_tableOk (c : RxClaim) (h : s.pv.tableOk s.sl.stationId) : (s.viewClaim c).pv.tableOk s.sl.stationId := by
  unfold State.viewClaim
  split
  · obtain ⟨hentries, hdraw⟩ := s.idConflict_table
    exact PeerView.tableOk_of_entries h hentries hdraw
  · rename_i hpeer
    exact PeerView.takeClaim_tableOk h hpeer

theorem State.claimPeriod_pv (s : State) : s.claimPeriod.pv = s.pv.clearUnlisted := by
  simp [State.claimPeriod, State.expiryPosted]

end

section
variable {s t : State}

theorem execImageReadComplete_viewOk {bits : List Bool} {contactClosed : Bool} (hs : s.viewOk)
    (h : execImageReadComplete bits contactClosed s = .next t) : t.viewOk := by
  cases h
  split
  · rename_i hread
    exact State.judgeImage_viewOk _ contactClosed hs hread.1
  · exact hs

theorem execClaimReceived_viewOk {check : Byte} (hs : s.viewOk) (h : execClaimReceived check s = .next t) : t.viewOk := by
  cases h
  dsimp only
  split
  · split
    · rename_i hactive
      have hconfig : s.sl.config = .active := of_decide_eq_true hactive
      refine State.viewOk_of_table hs (by simp) (by simp) (by simp) (fun hok => ?_) (fun hne => absurd hconfig hne)
      have hview := State.viewClaim_tableOk (s := s.acceptFrame check) (readClaim s.li.rxBuffer) (by simpa using hok)
      simpa using hview
    · exact State.viewOk_of_keepsView hs (by simp [State.keepsView])
  · exact hs

theorem execConflictReportGuardExpiry_viewOk (hs : s.viewOk) (h : execConflictReportGuardExpiry s = .next t) : t.viewOk := by
  cases h
  split
  · exact State.viewOk_of_table hs rfl rfl rfl (fun hok => PeerView.tableOk_of_entries hok rfl rfl) (fun _ hnone => hnone)
  · exact hs

theorem execTallyExpiry_viewOk (hs : s.viewOk) (h : execTallyExpiry s = .next t) : t.viewOk := by
  cases h
  split
  · exact State.viewOk_of_table hs rfl rfl rfl (ageEntries_tableOk _) (fun _ hnone => by simp [hnone, ageEntries])
  · exact hs

theorem execClaimPeriodExpiry_viewOk (hs : s.viewOk) (h : execClaimPeriodExpiry s = .next t) : t.viewOk := by
  cases h
  split
  · refine State.viewOk_of_table hs (by simp) (by simp) (by simp) (fun hok => ?_) (fun _ hnone => ?_)
    · simpa [State.claimPeriod_pv] using PeerView.clearUnlisted_tableOk hok
    · simpa [State.claimPeriod_pv, PeerView.clearUnlisted] using hnone
  · exact hs

end

/-! ## Every command -/

/-- The commands that write the view, the configuration or the station id. -/
def writesView : Instr → Bool
  | .powerUp _ | .brownOut _ | .imageReadComplete _ _ | .claimReceived _ | .conflictReportGuardExpiry | .tallyExpiry
  | .claimPeriodExpiry => true
  | _ => false

/-- Each other command is, in each of its branches, an update of its own block, or made of shared operations that leave the view, the
configuration and the station id as they were (their frames are the simp lemmas of Laws). -/
theorem exec_keepsView {c : Instr} {s t : State} (hc : writesView c = false) (h : exec c s = .next t) : s.keepsView t := by
  cases c
  case powerUp | brownOut | imageReadComplete | claimReceived | conflictReportGuardExpiry | tallyExpiry | claimPeriodExpiry =>
    simp [writesView] at hc
  case arbitrationLoss | transmitMismatch | frameSentWhole | diagSentWhole | lineClear | lineStuck | lineStuckRelease | openingFailure
      | missingStopBit | lengthFailure | checkFailure | unexpectedFrame | otherReportReceived | byteTaken | dominantLevelInGap
      | anchorLapse | plugContactChange | plugClosed | resetRetryWaitExpiry | busyRepollWaitExpiry | servicePauseEnd
      | recoveryTimerExpiry | pollTimerExpiry | senseReadsClosed | retryWaitExpiry | drawWaitExpiry =>
    cases h
    dsimp only [State.keepsView]
    (repeat' split) <;> exact ⟨rfl, rfl, rfl, rfl⟩
  all_goals
    cases h
    dsimp only [State.keepsView]
    (repeat' split) <;> simp

theorem exec_viewOk {c : Instr} {s t : State} (hs : s.viewOk) (h : exec c s = .next t) : t.viewOk := by
  cases c
  case powerUp => cases h; exact powerOn_viewOk _ _ _
  case brownOut => cases h; exact powerOn_viewOk _ _ _
  case imageReadComplete => exact execImageReadComplete_viewOk hs h
  case claimReceived => exact execClaimReceived_viewOk hs h
  case conflictReportGuardExpiry => exact execConflictReportGuardExpiry_viewOk hs h
  case tallyExpiry => exact execTallyExpiry_viewOk hs h
  case claimPeriodExpiry => exact execClaimPeriodExpiry_viewOk hs h
  all_goals exact State.viewOk_of_keepsView hs (exec_keepsView rfl h)

/-- Settles O52: an idle step changes nothing, and any other is a command on the state with the queue's rest, whose view is the same. -/
theorem viewInvariantKept : Obligations.ViewInvariantKept := by
  intro s t hs h
  unfold step at h
  split at h
  · cases h
    exact hs
  · rename_i rest _
    exact exec_viewOk (s := { s with pending := rest }) hs h

end Sys2Proof.Machine
end

section
/-! PROOFS. The Share Computer (spec chapter 04): the own claim of an expiry (R56 to R59), the budget (R48, R62, R63), and the own share in
Case A and in Case B (R64 to R67). -/

namespace Sys2Proof.Machine

/-! ## The own ceiling (R56) -/

/-- The terms of R56: the permit gate adds a 0 where it is closed. -/
def ceilingTerms (c : Settings) (accept stepCeiling : Nat) (policy : PolicyAnswer) : List Nat :=
  [c.pBay, accept, stepCeiling, policy.term] ++ if policy.permit then [] else [0]

theorem ownCeiling_of_not_running (c : Settings) {state : ProgState} (accept stepCeiling : Nat) (policy : PolicyAnswer)
    (h : state ≠ .running) : ownCeiling c state accept stepCeiling policy = 0 := if_pos h

/-- Nested minima with the gate's 0 in place of the term are the least of the terms of R56. -/
theorem ownCeiling_of_running (c : Settings) (accept stepCeiling : Nat) (policy : PolicyAnswer) :
    ∃ m ∈ ceilingTerms c accept stepCeiling policy, (∀ x ∈ ceilingTerms c accept stepCeiling policy, m ≤ x)
      ∧ ownCeiling c .running accept stepCeiling policy = if m < c.pMin then 0 else m := by
  refine ⟨min (min c.pBay accept) (min stepCeiling (if policy.permit then policy.term else 0)), ?mem, ?least, rfl⟩
  all_goals
    unfold ceilingTerms
    cases policy.permit
  case mem.true => simp; omega
  case mem.false | least.true | least.false => simp

theorem State.expiryCeiling_of_step {s : State} {p : WalkerPos} {st : ProgStep} (hrun : s.pw.state = .running)
    (hstep : s.pw.atStep = some (p, st)) :
    s.expiryCeiling = ownCeiling s.cfg .running s.pl.accept st.ceiling (s.lookup st.kind) := by
  have hcurrent : s.pw.current = some (p, st) := by simp [Walker.current, hrun, ProgState.walking, hstep]
  simp [State.expiryCeiling, State.currentLookup, Walker.stepCeiling, hcurrent, hrun]

theorem State.expiryCeiling_eq_zero_or_ge (s : State) : s.expiryCeiling = 0 ∨ s.cfg.pMin ≤ s.expiryCeiling :=
  (ownCeiling_spec _ _ _ _ _).imp_right fun ⟨_, hmin, _⟩ => hmin

theorem State.expiryCeiling_le_pBay (s : State) : s.expiryCeiling ≤ s.cfg.pBay := by
  rcases ownCeiling_spec s.cfg s.pw.state s.pl.accept s.pw.stepCeiling (s.currentLookup.getD ⟨0, false⟩) with hzero | ⟨_, _, hbay, _⟩
  · exact hzero.trans_le (Nat.zero_le _)
  · exact hbay

/-! ## Quotients rounded up, with a top (R57, R58) -/

/-- A quotient rounded up is the least number that covers the dividend, as long as the top leaves it. -/
theorem min_divUp_spec (a top : Nat) {b : Nat} (hb : 0 < b) :
    min (divUp a b) top ≤ top ∧ (∀ n < min (divUp a b) top, n * b < a)
      ∧ (min (divUp a b) top < top → a ≤ min (divUp a b) top * b) := by
  refine ⟨min_le_right _ _, fun n hn => ?_, fun htop => ?_⟩
  · have hless : ¬ divUp a b ≤ n := not_le.mpr (hn.trans_le (min_le_left _ _))
    rwa [divUp_le_iff hb, not_le] at hless
  · exact (divUp_le_iff hb).mp (by omega)

theorem requiredPower_of_no_need (left : Nat) : requiredPower 0 left = 0 := rfl

theorem requiredPower_of_late {energy : Nat} (hneed : 0 < energy) : requiredPower energy 0 = 9999 := if_neg hneed.ne'

theorem requiredPower_of_time {energy left : Nat} (hneed : 0 < energy) (hleft : 0 < left) :
    requiredPower energy left = min (divUp (energy * 60) left) 9999 := by
  rw [requiredPower, if_neg hneed.ne', if_neg hleft.ne']

/-! ## The own claim (R58, R59) -/

theorem atRiskNow_iff (sc : ShareComputer) (urgency : Nat) :
    atRiskNow sc urgency = true ↔ urgency = 1000 ∨ (sc.prevClaimant = true ∧ sc.lastPosted < sc.prevFloor) := by
  simp [atRiskNow]

section
variable {c : Settings} {sc : ShareComputer} {set : Bool} {m required : Nat}

theorem ownClaimOf_of_nonClaimant (h : set = false ∨ 0 < sc.conflictHold ∨ m = 0 ∨ required = 0) :
    ownClaimOf c sc set m required = .nonClaimant (atRiskNow sc 0) := if_pos h

theorem ownClaimOf_of_claimant (hset : set = true) (hhold : sc.conflictHold = 0) (hm : m ≠ 0) (hreq : required ≠ 0) :
    ownClaimOf c sc set m required
      = ⟨true, claimFloor c.pMin m required, m, claimUrgency m required, atRiskNow sc (claimUrgency m required)⟩ :=
  if_neg (by simp [hset, hhold, hm, hreq])

/-- The flag of R59 reads the urgency of the claim it stands in. -/
theorem ownClaimOf_atRisk : (ownClaimOf c sc set m required).atRisk = atRiskNow sc (ownClaimOf c sc set m required).urgency := by
  unfold ownClaimOf
  split <;> rfl

end

theorem DepotClock.isSet_eq_true_iff (dc : DepotClock) : dc.isSet = true ↔ dc.source ≠ .unset := decide_eq_true_iff

theorem DepotClock.isSet_eq_false_iff (dc : DepotClock) : dc.isSet = false ↔ dc.source = .unset := by
  simp [DepotClock.isSet]

/-- A claimant's urgency is above 0, since it asks for some power. -/
theorem claimUrgency_pos {m required : Nat} (hm : m ≠ 0) (hreq : required ≠ 0) : 1 ≤ claimUrgency m required := by
  obtain ⟨_, _, hcovers⟩ := min_divUp_spec (required * 1000) 1000 (Nat.pos_of_ne_zero hm)
  by_contra hzero
  have hnone : claimUrgency m required = 0 := by omega
  unfold claimUrgency at hnone
  rw [hnone] at hcovers
  omega

/-- Settles O21, part by part: the ceiling by whether the programme runs, the required power by the need and the time left, the claim by the
cases of R58. -/
theorem ownCeilingNeedAndClaim : Obligations.OwnCeilingNeedAndClaim := by
  constructor
  · intro s
    refine ⟨ownCeiling_of_not_running _ _ _ _, fun p st hrun hstep => ?ceiling, fun hnone => ?none, fun hneed hlate => ?late,
      fun hneed htime => ?time⟩
    case ceiling =>
      rw [State.expiryCeiling_of_step hrun hstep]
      exact ownCeiling_of_running _ _ _ _
    case none => rw [State.expiryRequired, hnone, requiredPower_of_no_need]
    case late => rw [State.expiryRequired, timeLeft, Nat.sub_eq_zero_of_le hlate, requiredPower_of_late hneed]
    case time =>
      have hleft : 0 < s.pw.deadline - s.dc.minute := Nat.sub_pos_of_lt htime
      rw [State.expiryRequired, timeLeft, requiredPower_of_time hneed hleft]
      exact min_divUp_spec _ _ hleft
  · intro s m required claim
    refine ⟨?risk, fun hnon => ?nonClaimant, fun hset hhold hm hreq => ?claimant⟩
    case risk =>
      have hflag : claim.atRisk = atRiskNow s.sc claim.urgency := ownClaimOf_atRisk
      rw [hflag]
      exact atRiskNow_iff _ _
    case nonClaimant =>
      rw [← DepotClock.isSet_eq_false_iff] at hnon
      have hclaim : claim = _ := ownClaimOf_of_nonClaimant hnon
      rw [hclaim]
      exact ⟨rfl, rfl, rfl, rfl⟩
    case claimant =>
      have hclaim : claim = _ := ownClaimOf_of_claimant (s.dc.isSet_eq_true_iff.mpr hset) hhold hm hreq
      have hmin : s.cfg.pMin ≤ m := s.expiryCeiling_eq_zero_or_ge.resolve_left hm
      obtain ⟨htop, hleast, hcovers⟩ := min_divUp_spec (required * 1000) 1000 (Nat.pos_of_ne_zero hm)
      rw [hclaim]
      exact ⟨rfl, rfl, rfl, htop, hleast, hcovers, le_min (le_max_right _ _) hmin, min_le_right _ _, claimUrgency_pos hm hreq⟩

/-! ## The snapshot and the budget (R48, R62, R63) -/

theorem filter_live_filter (keep : PeerEntry → Bool) (l : List PeerEntry) :
    (l.filter (fun e => !e.stale)).filter keep = l.filter (fun e => !e.stale && keep e) := by
  simp only [List.filter_filter, Bool.and_comm]

theorem buildingLoad_of_stale {c : Settings} {sc : ShareComputer} (h : sc.freshness = 0) : buildingLoad c sc = c.fallbackLoad :=
  if_neg (by omega)

theorem buildingLoad_of_fresh {c : Settings} {sc : ShareComputer} {load : Nat} (hfresh : 0 < sc.freshness)
    (hload : sc.siteLoad = some load) : buildingLoad c sc = load := by
  rw [buildingLoad, if_pos hfresh, hload, Option.getD_some]

/-- Settles O23: the snapshot's filters name the LIVE entries by one test each, and a difference of naturals is none below 0. -/
theorem budgetFromTheSnapshot : Obligations.BudgetFromTheSnapshot := by
  intro c sc pv load hstale hfresh live stale margin
  have hload : buildingLoad c sc = load := by
    rcases Nat.eq_zero_or_pos sc.freshness with hzero | hpos
    · rw [buildingLoad_of_stale hzero, hstale hzero]
    · exact buildingLoad_of_fresh hpos (hfresh hpos)
  refine ⟨?claimants, ?draws, rfl, rfl, ?budget⟩
  case claimants =>
    rw [filter_live_filter]
    rfl
  case draws =>
    rw [filter_live_filter]
    rfl
  case budget =>
    have hmargin : marginOf c = margin := rfl
    rw [budgetOf, hload, hmargin]
    omega

/-! ## The own claim among the peers (R64) -/

/-- The own claim as a claimant of the list. -/
def OwnClaim.listed (own : OwnClaim) (id : Nat) : Claimant := ⟨id, own.floor, own.ceiling, own.urgency⟩

theorem placeClaimant_perm (own : Claimant) (l : List Claimant) : (placeClaimant own l).Perm (own :: l) := by
  induction l with
  | nil => exact List.Perm.refl _
  | cons x xs ih =>
    unfold placeClaimant
    split
    · exact (ih.cons x).trans (List.Perm.swap own x xs)
    · exact List.Perm.refl _

theorem floorSum_placeClaimant (own : Claimant) (l : List Claimant) : floorSum (placeClaimant own l) = own.floor + floorSum l :=
  ((placeClaimant_perm own l).map Claimant.floor).sum_eq.trans List.sum_cons

theorem headroomSum_placeClaimant (own : Claimant) (l : List Claimant) :
    headroomSum (placeClaimant own l) = (own.ceiling - own.floor) + headroomSum l :=
  ((placeClaimant_perm own l).map fun x : Claimant => x.ceiling - x.floor).sum_eq.trans List.sum_cons

/-- The place of the own claim is after those that stand before it, and before the first that does not. -/
theorem placeClaimant_append {own : Claimant} {ahead behind : List Claimant}
    (hahead : ∀ x ∈ ahead, standsBefore x.urgency x.id own.urgency own.id = true)
    (hbehind : ∀ x ∈ behind, standsBefore x.urgency x.id own.urgency own.id = false) :
    placeClaimant own (ahead ++ behind) = ahead ++ own :: behind := by
  induction ahead with
  | nil =>
    cases behind with
    | nil => rfl
    | cons x xs => simp [placeClaimant, hbehind x List.mem_cons_self]
  | cons x xs ih =>
    have hxs := ih fun y hy => hahead y (List.mem_cons_of_mem x hy)
    simp [placeClaimant, hahead x List.mem_cons_self, hxs]

/-! ## The walk of Case B (R66) -/

/-- The walk reaches the first claimant with the id with what the floors before it leave. -/
theorem walkGrant_append {own : Claimant} {ahead : List Claimant} (behind : List Claimant) (hids : ∀ x ∈ ahead, x.id ≠ own.id)
    (left : Nat) : walkGrant own.id (ahead ++ own :: behind) left = min own.floor (left - floorSum ahead) := by
  induction ahead generalizing left with
  | nil => simp [walkGrant, floorSum]
  | cons x xs ih =>
    have hrest := ih (fun y hy => hids y (List.mem_cons_of_mem x hy)) (left - min x.floor left)
    have hsum : floorSum (x :: xs) = x.floor + floorSum xs := List.sum_cons
    rw [List.cons_append, walkGrant, if_neg (hids x List.mem_cons_self), hrest, hsum]
    omega

theorem walkGrant_placeClaimant_le (own : Claimant) {peers : List Claimant} (hids : ∀ x ∈ peers, x.id ≠ own.id) (left : Nat) :
    walkGrant own.id (placeClaimant own peers) left ≤ own.floor := by
  rcases walkGrant_le_floor own.id (placeClaimant own peers) left with hzero | ⟨x, hx, hid, hle⟩
  · exact hzero.trans_le (Nat.zero_le _)
  · rcases (placeClaimant_mem _ _ _).mp hx with rfl | hpeer
    · exact hle
    · exact absurd hid (hids x hpeer)

theorem shareInShortfall_le (pMin budget : Nat) (own : Claimant) (l : List Claimant) :
    shareInShortfall pMin budget own l ≤ walkGrant own.id l budget := by
  unfold shareInShortfall
  split
  · exact Nat.zero_le _
  · exact le_refl _

/-! ## The own share (R64 to R66) -/

section
variable {c : Settings} {own : OwnClaim} {budget : Nat} {peers : List Claimant}

theorem ownShare_of_nonClaimant (h : own.claimant = false) : ownShare c own budget peers = 0 := if_neg (by simp [h])

theorem ownShare_of_enough (hown : own.claimant = true) (h : own.floor + floorSum peers ≤ budget) :
    ownShare c own budget peers
      = shareWhenEnough budget (own.listed c.stationId) (placeClaimant (own.listed c.stationId) peers) := by
  have hfloors : floorSum (placeClaimant (own.listed c.stationId) peers) ≤ budget := by
    rwa [floorSum_placeClaimant]
  exact (if_pos hown).trans (if_pos hfloors)

theorem ownShare_of_shortfall (hown : own.claimant = true) (h : budget < own.floor + floorSum peers) :
    ownShare c own budget peers
      = shareInShortfall c.pMin budget (own.listed c.stationId) (placeClaimant (own.listed c.stationId) peers) := by
  have hfloors : ¬ floorSum (placeClaimant (own.listed c.stationId) peers) ≤ budget := by
    rwa [floorSum_placeClaimant, not_le]
  exact (if_pos hown).trans (if_neg hfloors)

theorem floor_le_ownShare (hown : own.claimant = true) (hfloor : own.floor ≤ own.ceiling) (h : own.floor + floorSum peers ≤ budget) :
    own.floor ≤ ownShare c own budget peers :=
  (shareWhenEnough_spec _ _ _ hfloor).1.trans_eq (ownShare_of_enough hown h).symm

theorem ownShare_le_floor (hown : own.claimant = true) (hids : ∀ x ∈ peers, x.id ≠ c.stationId)
    (h : budget < own.floor + floorSum peers) : ownShare c own budget peers ≤ own.floor :=
  (ownShare_of_shortfall hown h).trans_le
    ((shareInShortfall_le _ _ _ _).trans (walkGrant_placeClaimant_le (own.listed c.stationId) hids budget))

end

theorem standsBefore_iff (u id v own : Nat) : standsBefore u id v own = true ↔ v < u ∨ (u = v ∧ id < own) := decide_eq_true_iff

theorem standsBefore_eq_false {u id v own : Nat} (h : u < v ∨ (u = v ∧ own < id)) : standsBefore u id v own = false := by
  rw [← Bool.not_eq_true, standsBefore_iff]
  omega

/-- Settles O24: a claimant's share is Case A's or Case B's on the list with the own claim between those ahead and those behind. -/
theorem ownShareByCase : Obligations.OwnShareByCase := by
  intro c own budget ahead behind
  refine ⟨ownShare_of_nonClaimant, ?_⟩
  intro hown hahead hbehind hids floors headrooms extra grant
  have hfloors : floors = own.floor + floorSum (ahead ++ behind) := Nat.add_comm _ _
  have hheadrooms : headrooms = headroomSum (placeClaimant (own.listed c.stationId) (ahead ++ behind)) := by
    rw [headroomSum_placeClaimant]
    exact Nat.add_comm _ _
  refine ⟨fun henough => ?caseA, fun hshort => ?caseB⟩
  case caseA =>
    rw [ownShare_of_enough hown (hfloors.symm.trans_le henough), shareWhenEnough, ← hheadrooms, floorSum_placeClaimant]
    have hlisted : (own.listed c.stationId).floor + floorSum (ahead ++ behind) = floors := hfloors.symm
    rw [hlisted]
    rfl
  case caseB =>
    have hplace : placeClaimant (own.listed c.stationId) (ahead ++ behind) = ahead ++ own.listed c.stationId :: behind :=
      placeClaimant_append (fun x hx => (standsBefore_iff _ _ _ _).mpr (hahead x hx)) (fun x hx => standsBefore_eq_false (hbehind x hx))
    have hgrant : walkGrant (own.listed c.stationId).id (ahead ++ own.listed c.stationId :: behind) budget = grant :=
      walkGrant_append behind hids budget
    rw [ownShare_of_shortfall hown (hshort.trans_eq hfloors), shareInShortfall, hplace, hgrant]

/-! ## The share an expiry posts (R67) -/

/-- The bounds R67 rests on: a claim's floor lies below its ceiling, and a claimant's is the own ceiling. -/
theorem State.expiryClaim_bounds (s : State) :
    s.expiryClaim.floor ≤ s.expiryClaim.ceiling
      ∧ (s.expiryClaim.claimant = true → s.expiryClaim.ceiling = s.expiryCeiling ∧ s.cfg.pMin ≤ s.expiryClaim.floor) := by
  obtain ⟨hfloor, _, _, hclaimant⟩ := ownClaimOf_spec s.cfg s.sc s.dc.isSet s.expiryCeiling s.expiryRequired s.expiryCeiling_eq_zero_or_ge
  refine ⟨hfloor, fun hown => ?_⟩
  obtain ⟨hceiling, hmin, _⟩ := hclaimant hown
  exact ⟨hceiling, hmin⟩

theorem PeerView.snapshot_ids {pv : PeerView} {own : Nat} (h : ∀ e ∈ pv.entries, e.id ≠ own) :
    ∀ x ∈ pv.snapshot.claimants, x.id ≠ own := by
  intro x hx
  obtain ⟨e, he, rfl⟩ := List.mem_map.mp hx
  exact h e (List.mem_filter.mp he).1

theorem PeerView.snapshot_floorSum (pv : PeerView) :
    floorSum pv.snapshot.claimants
      = ((pv.entries.filter (fun e => !e.stale && 0 < e.ceiling)).map PeerEntry.floor).sum :=
  congrArg List.sum List.map_map

/-- Settles O25: the share's bounds hold of every claim, and the two cases bring it to the floor from above and from below. -/
theorem shareStaysInBounds : Obligations.ShareStaysInBounds := by
  intro s hpeers own floors budget
  obtain ⟨hfloor, hclaimant⟩ := s.expiryClaim_bounds
  have hids := PeerView.snapshot_ids hpeers
  have hfloors : floors = own.floor + floorSum s.pv.snapshot.claimants := congrArg _ s.pv.snapshot_floorSum.symm
  have hshare : s.expiryShare = 0 ∨ (s.cfg.pMin ≤ s.expiryShare ∧ s.expiryShare ≤ s.expiryCeiling) := by
    rcases ownShare_spec s.cfg own budget _ hids hfloor (fun hown => (hclaimant hown).2) with hzero | ⟨hown, hmin, hle⟩
    · exact Or.inl hzero
    · exact Or.inr ⟨hmin, hle.trans_eq (hclaimant hown).1⟩
  refine ⟨hshare, ?bay, fun hown => ?claimant⟩
  case bay =>
    have := s.expiryCeiling_le_pBay
    omega
  case claimant =>
    obtain ⟨hceiling, hmin⟩ := hclaimant hown
    refine ⟨hmin, hfloor.trans_eq hceiling, fun henough => ?_, fun hshort => ?_⟩
    · exact floor_le_ownShare hown hfloor (hfloors.symm.trans_le henough)
    · have hle : s.expiryShare ≤ own.floor := ownShare_le_floor hown hids (hshort.trans_eq hfloors)
      exact hshare.imp_right fun ⟨hge, _⟩ => ⟨hge, hle⟩

end Sys2Proof.Machine
end

section
/-! PROOFS. The Policy Tables (spec chapter 05): the entry a lookup applies (R76, R78), the table index (R79), and the term and the permit
gate it returns (R80 to R82). -/

namespace Sys2Proof.Machine

/-! ## The counted windows (R75, R76) -/

theorem windowHolds_iff (w : Window) (minute : Nat) : windowHolds w minute = true ↔ w.startMinute ≤ minute ∧ minute < w.stopMinute :=
  decide_eq_true_iff

theorem countedWindows_getElem?_eq_some_iff {c : Settings} {n : Nat} {w : Window} :
    (countedWindows c)[n]? = some w ↔ n < c.windowCount ∧ c.windows[n]? = some w := by
  rw [countedWindows, List.getElem?_take]
  split <;> simp [*]

/-- The lowest slot wins: no counted window before it holds the minute (R78). -/
theorem find?_countedWindows_of_lowest {c : Settings} {minute n : Nat} {w : Window} (hn : n < c.windowCount)
    (hw : c.windows[n]? = some w) (hholds : windowHolds w minute = true)
    (hlower : ∀ k v, k < n → c.windows[k]? = some v → ¬ windowHolds v minute = true) :
    (countedWindows c).find? (fun w => windowHolds w minute) = some w := by
  obtain ⟨hlength, hat⟩ := List.getElem?_eq_some_iff.mp (countedWindows_getElem?_eq_some_iff.mpr ⟨hn, hw⟩)
  refine List.find?_eq_some_iff_getElem.mpr ⟨hholds, n, hlength, hat, fun k hk => ?_⟩
  obtain ⟨_, hv⟩ := countedWindows_getElem?_eq_some_iff.mp (List.getElem?_eq_getElem (hk.trans hlength))
  simpa using hlower k _ hk hv

theorem find?_countedWindows_of_none {c : Settings} {minute : Nat}
    (hnone : ∀ n w, n < c.windowCount → c.windows[n]? = some w → ¬ windowHolds w minute = true) :
    (countedWindows c).find? (fun w => windowHolds w minute) = none := by
  refine List.find?_eq_none.mpr fun w hw => ?_
  obtain ⟨n, hat⟩ := List.mem_iff_getElem?.mp hw
  obtain ⟨hn, hw⟩ := countedWindows_getElem?_eq_some_iff.mp hat
  exact hnone n w hn hw

/-! ## The applying entry (R78) -/

theorem applyingEntry_of_policyOff {c : Settings} (h : c.policyEnable = false) (clockSet : Bool) (minute : Nat) :
    applyingEntry c clockSet minute = openEntry := if_pos h

theorem applyingEntry_of_noMap {c : Settings} {clockSet : Bool} (hon : c.policyEnable = true)
    (h : clockSet = false ∨ c.mapEnable = false) (minute : Nat) : applyingEntry c clockSet minute = c.defaultEntry := by
  rcases h with hunset | hoff
  · simp [applyingEntry, hon, hunset]
  · simp [applyingEntry, hon, hoff]

/-- With the policy on, the clock SET and the map on, the windows decide. -/
theorem applyingEntry_of_map {c : Settings} (hon : c.policyEnable = true) (hmap : c.mapEnable = true) (minute : Nat) :
    applyingEntry c true minute
      = (((countedWindows c).find? (fun w => windowHolds w minute)).map Window.markers).getD c.defaultEntry := by
  simp only [applyingEntry, hon, hmap, Bool.true_eq_false, if_false]
  cases (countedWindows c).find? (fun w => windowHolds w minute) <;> rfl

/-! ## The term and the permit gate (R79 to R82) -/

theorem lookupPolicy_of_policyOff {c : Settings} (h : c.policyEnable = false) (i : LookupInput) : lookupPolicy c i = ⟨c.pBay, true⟩ :=
  if_pos h

theorem lookupPolicy_of_code {c : Settings} {i : LookupInput} {code : Nat} (hon : c.policyEnable = true)
    (hcode : c.classCodes[tableIndex (applyingEntry c i.clockSet i.minute).restricted i.late (coldIndex c i.temperature)]? = some code) :
    lookupPolicy c i = ⟨classTerm c code i.kind, permitGate (applyingEntry c i.clockSet i.minute) i.kind⟩ := by
  rw [lookupPolicy, if_neg (by simp [hon])]
  simp [List.getD_eq_getElem?_getD, hcode]

theorem permitGate_eq (m : Markers) (kind : StepKind) :
    permitGate m kind = if kind = .bulk ∨ kind = .taper then m.bulkPermit else m.warmPermit := by
  cases kind <;> rfl

/-- Settles O29: the entry by the cases of R78, the windows by the first that holds the minute, and the answer by the class code at the
table index. -/
theorem policyLookupAnswers : Obligations.PolicyLookupAnswers := by
  refine ⟨fun _ _ => rfl, fun c i => ⟨fun hoff => ?off, fun hon hno => applyingEntry_of_noMap hon hno i.minute,
    fun hon hset hmap => ?windows, fun hon code => ?answer⟩⟩
  case off => exact ⟨applyingEntry_of_policyOff hoff _ _, lookupPolicy_of_policyOff hoff i⟩
  case windows =>
    rw [hset, applyingEntry_of_map hon hmap]
    simp only [← windowHolds_iff]
    refine ⟨fun n w hn hw hstart hstop hlower => ?lowest, fun hnone => ?default⟩
    case lowest => rw [find?_countedWindows_of_lowest hn hw ((windowHolds_iff w _).mpr ⟨hstart, hstop⟩) hlower]; rfl
    case default => rw [find?_countedWindows_of_none hnone]; rfl
  case answer =>
    intro m cold hcode
    have hanswer : lookupPolicy c i = ⟨classTerm c code i.kind, permitGate m i.kind⟩ := lookupPolicy_of_code hon hcode
    rw [hanswer]
    refine ⟨permitGate_eq m i.kind, ?_, ?_, ?_, ?_, ?_⟩ <;> (rintro rfl; rfl)

end Sys2Proof.Machine
end

section
/-! PROOFS. The plug link (spec chapter 07): what the link entering LOST does at the Plug Link, the walker, Power Stage Control and on the
depot line (R123). -/

namespace Sys2Proof.Machine

section

variable (s : State) {ps : PowerStage} {active : Bool}

/-! ## A contactor that is not wanted (R135 to R138) -/

theorem PowerStage.wanted_of_linkDown (h : ps.linkWorking = false) : ps.wanted active = false := by simp [PowerStage.wanted, h]

theorem Contactor.engaged_eq_false_iff (c : Contactor) : c.engaged = false ↔ c ≠ .closing ∧ c ≠ .isClosed := by
  cases c <;> simp [Contactor.engaged]

theorem PowerStage.enterOpen_contactor_of_unwanted (h : ps.wanted active = false) : (ps.enterOpen active).contactor = .isOpen := by
  unfold PowerStage.enterOpen
  dsimp only
  split
  · next hwant => exact absurd (h.symm.trans hwant.1) Bool.false_ne_true
  · rfl

theorem PowerStage.beginSensePhase_not_engaged (h : ps.wanted active = false) : (ps.beginSensePhase active).contactor.engaged = false := by
  unfold PowerStage.beginSensePhase
  dsimp only
  split
  · rfl
  · rw [PowerStage.enterOpen_contactor_of_unwanted (by exact h)]; rfl

theorem PowerStage.beginDrawPhase_not_engaged (h : ps.wanted active = false) : (ps.beginDrawPhase active).contactor.engaged = false := by
  unfold PowerStage.beginDrawPhase
  dsimp only
  split
  · exact PowerStage.beginSensePhase_not_engaged h
  · rfl

/-- A judgement leaves no unwanted contactor in CLOSING or CLOSED. -/
theorem PowerStage.judge_not_engaged (h : ps.wanted active = false) : (ps.judge active).contactor.engaged = false := by
  unfold PowerStage.judge
  cases hcon : ps.contactor with
  | isOpen => simp [h, hcon, Contactor.engaged]
  | closing => simpa [h] using PowerStage.beginSensePhase_not_engaged h
  | isClosed => simpa [h] using PowerStage.beginDrawPhase_not_engaged h
  | opening _ => simp [hcon, Contactor.engaged]
  | closeFault => simp [hcon, Contactor.engaged]
  | weldFault => simp [hcon, Contactor.engaged]

/-! ## A setpoint of 0 stays 0 (R131, R137) -/

theorem PowerStage.takeAcceptLimit_zero_setpoint (pMin : Nat) (ps : PowerStage) : (ps.takeAcceptLimit pMin 0).setpoint = 0 := by
  unfold PowerStage.takeAcceptLimit limitSetpoint
  dsimp only
  split <;> simp_all

theorem PowerStage.judge_setpoint_of_zero (h : ps.setpoint = 0) : (ps.judge active).setpoint = 0 := by
  unfold PowerStage.judge
  (repeat' split) <;>
    simp [PowerStage.enterClosing_setpoint, PowerStage.beginSensePhase_setpoint, PowerStage.beginDrawPhase_setpoint, h]

theorem PowerStage.Told.setpoint_of_zero {a b : PowerStage} (h : PowerStage.Told active a b) (ha : a.setpoint = 0) : b.setpoint = 0 := by
  induction h with
  | refl => exact ha
  | tell _ _ ih => exact PowerStage.judge_setpoint_of_zero ih

/-! ## A hold cause set at the walker (R87, R88) -/

theorem checkedState_of_holding {holds : HoldSet} (h : holds.holding = true) (minute : Nat) (p : WalkerPos) (st : ProgStep) :
    checkedState holds minute p st = .held := if_pos h

/-- The walker under a hold cause: a walk with a current step is HELD. -/
def Walker.halted (pw : Walker) : Walker :=
  { pw with state := if pw.state.walking = true ∧ pw.atStep ≠ none then .held else pw.state }

theorem Walker.halted_of_walk {pw : Walker} (h : pw.state.walking = true ∧ pw.atStep ≠ none) :
    pw.halted = { pw with state := .held } := by
  rw [Walker.halted, if_pos h]

theorem Walker.halted_of_still {pw : Walker} (h : ¬ (pw.state.walking = true ∧ pw.atStep ≠ none)) : pw.halted = pw := by
  rw [Walker.halted, if_neg h]

theorem State.stateCheck_of_noStep (h : s.pw.atStep = none) : s.stateCheck = s.tellPower := by simp [State.stateCheck, h]

theorem State.stateCheck_of_holding (h : s.pw.holds.holding = true) (hstep : s.pw.atStep ≠ none) :
    s.stateCheck = State.tellPower (s.withPw { s.pw with state := .held }) := by
  obtain ⟨⟨p, st⟩, hat⟩ := Option.ne_none_iff_exists'.mp hstep
  simp [State.stateCheck, hat, State.checkAt, checkedState_of_holding h]

/-- Under a hold cause the check can only hold the walk: no step starts, so no heater is asked for. -/
theorem State.checkWalking_of_holding (h : s.pw.holds.holding = true) :
    s.checkWalking = State.tellPower (s.withPw s.pw.halted) := by
  unfold State.checkWalking
  by_cases hwalk : s.pw.state.walking = true
  · rw [if_pos hwalk]
    by_cases hstep : s.pw.atStep = none
    · rw [s.stateCheck_of_noStep hstep, Walker.halted_of_still fun hboth => hboth.2 hstep, State.withPw_self]
    · rw [s.stateCheck_of_holding h hstep, Walker.halted_of_walk ⟨hwalk, hstep⟩]
  · rw [if_neg hwalk, Walker.halted_of_still fun hboth => hwalk hboth.1, State.withPw_self]

theorem State.setHolds_of_holding {holds : HoldSet} (h : holds.holding = true) :
    s.setHolds holds = State.tellPower (s.withPw (Walker.halted { s.pw with holds := holds })) :=
  State.checkWalking_of_holding (s.withPw { s.pw with holds := holds }) h

/-- The walker after the link LOST with a van attached. -/
def Walker.linkLost (pw : Walker) : Walker := Walker.halted { pw with holds := { pw.holds with linkLost := true } }

theorem State.linkLostReport_of_van (h : s.pw.van.isSome = true) :
    s.linkLostReport = State.tellPower (s.withPw s.pw.linkLost) := by
  have hholding : ({ s.pw.holds with linkLost := true } : HoldSet).holding = true := by simp [HoldSet.holding]
  rw [State.linkLostReport, if_pos h, s.setHolds_of_holding hholding, Walker.linkLost]

theorem State.linkLostReport_of_noVan (h : s.pw.van.isSome = false) : s.linkLostReport = s := if_neg (by simp [h])

theorem State.linkLostReport_pw_of_van (h : s.pw.van.isSome = true) :
    s.linkLostReport.pw = s.pw.linkLost := by
  rw [s.linkLostReport_of_van h]; simp

theorem State.linkLostReport_pw_frame :
    s.linkLostReport.pw.van = s.pw.van ∧ s.linkLostReport.pw.held = s.pw.held ∧ s.linkLostReport.pw.steps = s.pw.steps := by
  cases hvan : s.pw.van.isSome with
  | false => rw [s.linkLostReport_of_noVan hvan]; exact ⟨rfl, rfl, rfl⟩
  | true => rw [s.linkLostReport_pw_of_van hvan]; exact ⟨rfl, rfl, rfl⟩

@[simp] theorem State.linkLostReport_pl : s.linkLostReport.pl = s.pl := by
  cases hvan : s.pw.van.isSome with
  | false => rw [s.linkLostReport_of_noVan hvan]
  | true => rw [s.linkLostReport_of_van hvan]; simp

/-! ## A report joins the queue (R16, R20, R153) -/

/-- An attempt marks its frame as on the line and leaves what is queued. -/
theorem markHead_map_frame (q : List QueueEntry) : (markHead q).map QueueEntry.frame = q.map QueueEntry.frame := by
  cases q <;> rfl

theorem State.trySend_map_frame : s.trySend.li.queue.map QueueEntry.frame = s.li.queue.map QueueEntry.frame := by
  unfold State.trySend
  split
  · exact markHead_map_frame s.li.queue
  · rfl

theorem State.queueReport_mem (kind : ReportKind) (tag : VanTag) (detail : Nat) (h : s.sl.config = .active) :
    ∃ e ∈ (s.queueReport kind tag detail).li.queue, e.frame = .report ⟨kind, tag, detail, s.dc.reportMinute⟩ := by
  have hactive : s.active = true := by simp [State.active, h]
  rw [← List.mem_map, State.queueReport, if_pos hactive, State.enqueue, State.trySend_map_frame, State.withLi_li, queueFrame_report]
  simp [QueueEntry.fresh]

/-! ## LOST (R123) -/

theorem PlugLink.tag_eq (pl : PlugLink) : pl.tag = (pl.identity.map VanIdentity.tag).getD 0#48 := by
  unfold PlugLink.tag
  cases pl.identity <;> rfl

/-- The state after LOST is taken at the Plug Link and the accept power 0 handed on, before the other blocks are told. -/
def State.linkDropped (s : State) : State := State.handAccept 0 (s.withPl s.pl.lose)

theorem State.linkDropped_pl : s.linkDropped.pl = { s.pl.lose with accept := 0 } := by simp [State.linkDropped, State.handAccept]

theorem State.linkDropped_pw : s.linkDropped.pw = s.pw := by simp [State.linkDropped]

theorem State.linkDropped_ps : s.linkDropped.ps = s.ps.takeAcceptLimit s.cfg.pMin 0 := by simp [State.linkDropped, State.handAccept]

theorem State.enterLost_eq :
    s.enterLost = State.queueReport .fault s.linkDropped.linkLostReport.pl.tag causeLinkLost
      (s.linkDropped.linkLostReport.linkView s.linkDropped.linkLostReport.ps.plugDetected false) := rfl

theorem State.enterLost_pl : s.enterLost.pl = { s.pl.lose with accept := 0 } := by
  rw [State.enterLost_eq, State.queueReport_pl, State.linkView_pl, State.linkLostReport_pl, State.linkDropped_pl]

theorem State.enterLost_pw : s.enterLost.pw = s.linkDropped.linkLostReport.pw := by
  rw [State.enterLost_eq, State.queueReport_pw, State.linkView_pw]

theorem State.linkView_ps (plugDetected linkWorking : Bool) :
    (s.linkView plugDetected linkWorking).ps
      = ({ s.ps with plugDetected := plugDetected, linkWorking := linkWorking } : PowerStage).judge s.active := rfl

/-- Power Stage Control after LOST: the accept limit and the setpoint 0, and a link that does not work holds no contactor closed. -/
theorem State.enterLost_ps :
    s.enterLost.ps.acceptLimit = 0 ∧ s.enterLost.ps.linkWorking = false ∧ s.enterLost.ps.setpoint = 0
      ∧ s.enterLost.ps.contactor.engaged = false := by
  have htold : PowerStage.Told s.linkDropped.active s.linkDropped.ps s.linkDropped.linkLostReport.ps :=
    State.linkLostReport_told s.linkDropped rfl
  have hsetpoint : s.linkDropped.linkLostReport.ps.setpoint = 0 :=
    htold.setpoint_of_zero (by rw [State.linkDropped_ps, PowerStage.takeAcceptLimit_zero_setpoint])
  have hlimit : s.linkDropped.linkLostReport.ps.acceptLimit = 0 := by
    obtain ⟨-, -, hkept, -⟩ := htold.kept
    rw [hkept, State.linkDropped_ps]; rfl
  rw [State.enterLost_eq, State.queueReport_ps, State.linkView_ps]
  refine ⟨?limit, ?link, ?setpoint, ?contactor⟩
  case limit => rw [PowerStage.judge_acceptLimit]; exact hlimit
  case link => rw [PowerStage.judge_linkWorking]
  case setpoint => exact PowerStage.judge_setpoint_of_zero hsetpoint
  case contactor => exact PowerStage.judge_not_engaged (PowerStage.wanted_of_linkDown rfl)

/-- The FAULT report carries the tag of the last identity, which LOST keeps. -/
theorem State.enterLost_reports (h : s.sl.config = .active) :
    ∃ e ∈ s.enterLost.li.queue,
      e.frame = .report ⟨.fault, (s.pl.identity.map VanIdentity.tag).getD 0#48, causeLinkLost, s.dc.reportMinute⟩ := by
  have htag : s.linkDropped.linkLostReport.pl.tag = (s.pl.identity.map VanIdentity.tag).getD 0#48 := by
    rw [PlugLink.tag_eq, State.linkLostReport_pl, State.linkDropped_pl]; rfl
  have hreport := State.queueReport_mem (s.linkDropped.linkLostReport.linkView s.linkDropped.linkLostReport.ps.plugDetected false)
    .fault s.linkDropped.linkLostReport.pl.tag causeLinkLost (by simpa [State.linkDropped] using h)
  rw [htag] at hreport
  rw [State.enterLost_eq, htag]
  simpa [State.linkDropped] using hreport

end

/-- Settles O40, block by block: the link's record, Power Stage Control, the walker and the report. -/
theorem lostLinkHoldsAndReports : Obligations.LostLinkHoldsAndReports := by
  intro s t
  have hpl : t.pl = { s.pl.lose with accept := 0 } := s.enterLost_pl
  have hpw : t.pw = s.linkDropped.linkLostReport.pw := s.enterLost_pw
  obtain ⟨hlimit, hlink, hsetpoint, hengaged⟩ := s.enterLost_ps
  obtain ⟨hclosing, hclosed⟩ := (Contactor.engaged_eq_false_iff _).mp hengaged
  obtain ⟨hvan, hheld, hsteps⟩ := s.linkDropped.linkLostReport_pw_frame
  rw [s.linkDropped_pw] at hvan hheld hsteps
  have hlost : s.pw.van.isSome = true → t.pw = s.pw.linkLost := fun hsome => by
    rw [hpw, s.linkDropped.linkLostReport_pw_of_van (by rwa [s.linkDropped_pw]), s.linkDropped_pw]
  rw [hpl]
  refine ⟨rfl, rfl, rfl, rfl, rfl, rfl, rfl, rfl, rfl, rfl, rfl, rfl, rfl, rfl, hlimit, hlink, hsetpoint, hclosing, hclosed,
    hpw ▸ hvan, hpw ▸ hheld, hpw ▸ hsteps, ?cause, ?holds, s.enterLost_reports⟩
  case cause => intro hsome; rw [hlost hsome]; rfl
  case holds => intro hwalk hsome hstep; rw [hlost hsome]; exact congrArg Walker.state (Walker.halted_of_walk ⟨hwalk, hstep⟩)

end Sys2Proof.Machine
end

section
/-! PROOFS. The power stage (spec chapter 08): how a posting, an accept limit and a shed move the setpoint (R130, R131, R133), and that
every command keeps it within its limits and none but a posting raises it (R132). -/

namespace Sys2Proof.Machine

/-! ## What a posting makes of the setpoint (R130) -/

section
variable {c : Settings} {ps : PowerStage} {share : Nat}

theorem postedSetpoint_of_closed (hclosed : ps.contactor = .isClosed) (hmeter : ps.meterLost = false) :
    postedSetpoint c share ps
      = if share < ps.setpoint then share
        else if ps.setpoint < share ∧ ps.shedHold = 0 then
          if ps.setpoint = 0 then min share (max c.pMin c.rampStep) else min share (ps.setpoint + c.rampStep)
        else ps.setpoint :=
  if_neg (by simp [hclosed, hmeter])

theorem postedSetpoint_le_ramp : postedSetpoint c share ps ≤ ps.setpoint + max c.pMin c.rampStep := by
  unfold postedSetpoint
  (repeat' split) <;> omega

/-- A posting raises only in CLOSED, with the meter good and no shed hold. -/
theorem postedSetpoint_le_of_barred (h : ps.contactor ≠ .isClosed ∨ ps.meterLost = true ∨ 0 < ps.shedHold) :
    postedSetpoint c share ps ≤ ps.setpoint := by
  by_cases hopen : ps.contactor ≠ .isClosed ∨ ps.meterLost = true
  · rw [(postedSetpoint_spec c share ps).2 hopen]
    exact Nat.zero_le _
  · have hheld : 0 < ps.shedHold := by tauto
    unfold postedSetpoint
    rw [if_neg hopen]
    (repeat' split) <;> omega

theorem limitSetpoint_le (pMin limit v : Nat) : limitSetpoint pMin limit v ≤ v := by
  rcases limitSetpoint_spec pMin limit v with hzero | ⟨-, hle, -⟩
  · omega
  · exact hle

theorem PowerStage.takePosting_setpoint_le : (ps.takePosting c share).setpoint ≤ postedSetpoint c share ps :=
  limitSetpoint_le _ _ _

/-- A setpoint above the new limit comes down to the limit itself (R131). -/
theorem limitSetpoint_of_above {pMin limit v : Nat} (h : limit < v) :
    limitSetpoint pMin limit v = if limit < pMin then 0 else limit := by
  rw [limitSetpoint, Nat.min_eq_right h.le]

theorem PowerStage.takeAcceptLimit_eq (pMin limit : Nat) (ps : PowerStage) :
    ps.takeAcceptLimit pMin limit =
      { ps with acceptLimit := limit, setpoint := if limit < ps.setpoint then (if limit < pMin then 0 else limit) else ps.setpoint } := by
  unfold PowerStage.takeAcceptLimit
  split
  · next habove => rw [limitSetpoint_of_above habove]
  · rfl

end

/-- Settles O28: the setpoint a posting is limited from is `postedSetpoint`, whose cases are those of R130. -/
theorem setpointMovesByPostingLimitAndShed : Obligations.SetpointMovesByPostingLimitAndShed := by
  intro c ps share limit total limited
  refine ⟨⟨postedSetpoint c share ps, rfl, (postedSetpoint_spec c share ps).2, fun hclosed hmeter => ?cases⟩, ?ramp,
    fun hheld => ?held, PowerStage.takeAcceptLimit_eq _ _ _, rfl⟩
  case cases =>
    rw [postedSetpoint_of_closed hclosed hmeter]
    refine ⟨fun hbelow => if_pos hbelow, fun habove hfree hzero => ?_, fun habove hfree hpos => ?_, fun hkept => ?_⟩
    · rw [if_neg habove.not_gt, if_pos ⟨habove, hfree⟩, if_pos hzero]
    · rw [if_neg habove.not_gt, if_pos ⟨habove, hfree⟩, if_neg hpos]
    · rw [if_neg (by omega), if_neg (by omega)]
  case ramp => exact PowerStage.takePosting_setpoint_le.trans postedSetpoint_le_ramp
  case held => exact PowerStage.takePosting_setpoint_le.trans (postedSetpoint_le_of_barred (.inr (.inr hheld)))

/-! ## A setpoint that is lowered or left (R131 to R133, R137) -/

section
variable {c : Settings} {a b ps : PowerStage} {active : Bool}

/-- From `a` to `b` the setpoint is not raised, and stays within its limits where it was. -/
def PowerStage.Lowered (c : Settings) (a b : PowerStage) : Prop := b.setpoint ≤ a.setpoint ∧ (a.setpointOk c → b.setpointOk c)

theorem PowerStage.Lowered.rfl (ps : PowerStage) : PowerStage.Lowered c ps ps := ⟨le_refl _, id⟩

theorem PowerStage.Lowered.trans {d : PowerStage} (h : PowerStage.Lowered c a b) (k : PowerStage.Lowered c b d) :
    PowerStage.Lowered c a d := ⟨k.1.trans h.1, k.2 ∘ h.2⟩

theorem PowerStage.lowered_to_zero (h : b.setpoint = 0) : PowerStage.Lowered c a b :=
  ⟨h.le.trans (Nat.zero_le _), fun _ => PowerStage.setpointOk_zero h⟩

/-- Outside CLOSED the setpoint in order is 0, so whatever leaves it keeps it in order. -/
theorem PowerStage.lowered_of_notClosed (hcon : a.contactor ≠ .isClosed) (hset : b.setpoint = a.setpoint) : PowerStage.Lowered c a b :=
  ⟨hset.le, fun hok => PowerStage.setpointOk_zero (hset.trans (PowerStage.setpointOk_notClosed hok hcon))⟩

theorem PowerStage.judge_setpoint_le : (ps.judge active).setpoint ≤ ps.setpoint := by
  unfold PowerStage.judge
  (repeat' split) <;>
    simp [PowerStage.enterClosing_setpoint, PowerStage.beginSensePhase_setpoint, PowerStage.beginDrawPhase_setpoint]

theorem PowerStage.judge_lowered : PowerStage.Lowered c ps (ps.judge active) :=
  ⟨PowerStage.judge_setpoint_le, PowerStage.judge_setpointOk⟩

theorem PowerStage.Told.lowered (h : PowerStage.Told active a b) : PowerStage.Lowered c a b := by
  induction h with
  | refl => exact .rfl _
  | tell _ pw ih => exact ih.trans PowerStage.judge_lowered

theorem PowerStage.takeAcceptLimit_lowered (limit : Nat) : PowerStage.Lowered c ps (ps.takeAcceptLimit c.pMin limit) := by
  refine ⟨?_, PowerStage.takeAcceptLimit_setpointOk⟩
  rw [PowerStage.takeAcceptLimit_eq]
  dsimp only
  (repeat' split) <;> omega

theorem PowerStage.shed_lowered (total : Nat) : PowerStage.Lowered c ps (ps.shed c total) := by
  refine ⟨?_, PowerStage.shed_setpointOk⟩
  show shedSetpoint c total ps.setpoint ≤ ps.setpoint
  have := shedSetpoint_spec c total ps.setpoint
  omega

/-- An update clears meter lost and leaves the setpoint (R142). -/
theorem PowerStage.takeDraw_lowered (power : Nat) : PowerStage.Lowered c ps (ps.takeDraw power) := by
  refine ⟨le_refl _, Or.imp_right ?_⟩
  rintro ⟨hclosed, -, hlimits⟩
  exact ⟨hclosed, rfl, hlimits⟩

end

/-! ## Operations that lower or leave the setpoint -/

/-- From `s` to `t` the setpoint is lowered or left, and what its invariant reads of the other blocks is as it was. -/
structure State.LowersSetpoint (s t : State) : Prop where
  cfg : t.cfg = s.cfg
  config : t.sl.config = s.sl.config
  claimTimer : t.sc.claimTimer = s.sc.claimTimer
  lowered : PowerStage.Lowered s.cfg s.ps t.ps

section
variable {s t u : State}

theorem State.LowersSetpoint.rfl (s : State) : s.LowersSetpoint s := ⟨Eq.refl _, Eq.refl _, Eq.refl _, .rfl _⟩

theorem State.LowersSetpoint.trans (h : s.LowersSetpoint t) (k : t.LowersSetpoint u) : s.LowersSetpoint u :=
  ⟨k.cfg.trans h.cfg, k.config.trans h.config, k.claimTimer.trans h.claimTimer, h.lowered.trans (h.cfg ▸ k.lowered)⟩

/-- Outside ACTIVE the setpoint stays 0 and the claim timer stopped (R52, R129). -/
theorem State.LowersSetpoint.setpointOk (h : s.LowersSetpoint t) (hs : s.setpointOk) : t.setpointOk := by
  obtain ⟨hlimits, hidle⟩ := hs
  refine ⟨h.cfg ▸ h.lowered.2 hlimits, fun hconfig => ?_⟩
  obtain ⟨hzero, htimer⟩ := hidle (h.config ▸ hconfig)
  exact ⟨Nat.le_zero.mp (h.lowered.1.trans_eq hzero), h.claimTimer.trans htimer⟩

theorem State.lowersSetpoint_of_ps (h : t.ps = s.ps) (hcfg : t.cfg = s.cfg := by simp) (hconfig : t.sl.config = s.sl.config := by simp)
    (htimer : t.sc.claimTimer = s.sc.claimTimer := by simp) : s.LowersSetpoint t :=
  ⟨hcfg, hconfig, htimer, h ▸ .rfl _⟩

/-- What the walker tells Power Stage Control lowers the setpoint or leaves it. -/
theorem State.lowersSetpoint_of_told {active : Bool} (h : PowerStage.Told active s.ps t.ps) (hcfg : t.cfg = s.cfg := by simp)
    (hconfig : t.sl.config = s.sl.config := by simp) (htimer : t.sc.claimTimer = s.sc.claimTimer := by simp) : s.LowersSetpoint t :=
  ⟨hcfg, hconfig, htimer, h.lowered⟩

theorem State.withPs_lowersSetpoint {ps : PowerStage} (h : PowerStage.Lowered s.cfg s.ps ps) : s.LowersSetpoint (s.withPs ps) :=
  ⟨Eq.refl _, Eq.refl _, Eq.refl _, h⟩

theorem State.withPl_lowersSetpoint (s : State) (pl : PlugLink) : s.LowersSetpoint (s.withPl pl) :=
  State.lowersSetpoint_of_ps rfl

theorem State.settleLink_lowersSetpoint (s : State) : s.LowersSetpoint s.settleLink :=
  s.withPl_lowersSetpoint _

theorem State.queueReport_lowersSetpoint (kind : ReportKind) (tag : VanTag) (detail : Nat) (s : State) :
    s.LowersSetpoint (s.queueReport kind tag detail) := State.lowersSetpoint_of_ps (by simp)

theorem State.acceptFrame_lowersSetpoint (check : Byte) (s : State) : s.LowersSetpoint (s.acceptFrame check) :=
  State.lowersSetpoint_of_ps (by simp)

theorem State.setHolds_lowersSetpoint (holds : HoldSet) (s : State) : s.LowersSetpoint (s.setHolds holds) :=
  State.lowersSetpoint_of_told (s.setHolds_told holds rfl)

theorem State.offerAnchor_lowersSetpoint (time : Nat) (s : State) : s.LowersSetpoint (s.offerAnchor time) :=
  State.lowersSetpoint_of_told (s.offerAnchor_told time rfl)

/-- The accept power handed on is the new limit (R131). -/
theorem State.handAccept_lowersSetpoint (v : Nat) (s : State) : s.LowersSetpoint (s.handAccept v) :=
  (s.withPl_lowersSetpoint _).trans (State.withPs_lowersSetpoint (PowerStage.takeAcceptLimit_lowered v))

theorem State.linkView_lowersSetpoint (plugDetected linkWorking : Bool) (s : State) :
    s.LowersSetpoint (s.linkView plugDetected linkWorking) := by
  have hview : PowerStage.Lowered s.cfg s.ps { s.ps with plugDetected := plugDetected, linkWorking := linkWorking } := .rfl s.ps
  exact State.withPs_lowersSetpoint (hview.trans PowerStage.judge_lowered)

/-! ## The fault latches and the plug (R136, R137, R139) -/

theorem State.setCloseLatch_lowersSetpoint (s : State) : s.LowersSetpoint s.setCloseLatch :=
  ((State.withPs_lowersSetpoint (PowerStage.lowered_to_zero rfl)).trans (State.setHolds_lowersSetpoint _ _)).trans
    (State.queueReport_lowersSetpoint _ _ _ _)

theorem State.setWeldLatch_lowersSetpoint (s : State) : s.LowersSetpoint s.setWeldLatch :=
  ((State.withPs_lowersSetpoint (PowerStage.lowered_to_zero rfl)).trans (State.setHolds_lowersSetpoint _ _)).trans
    (State.queueReport_lowersSetpoint _ _ _ _)

theorem State.failedClose_lowersSetpoint (s : State) : s.LowersSetpoint s.failedClose := by
  unfold State.failedClose
  split
  · exact State.withPs_lowersSetpoint (PowerStage.lowered_to_zero rfl)
  · exact s.setCloseLatch_lowersSetpoint

theorem PowerStage.clearCloseFault_lowered {c : Settings} (ps : PowerStage) : PowerStage.Lowered c ps ps.clearCloseFault := by
  unfold PowerStage.clearCloseFault
  split
  · next hfault => exact PowerStage.lowered_of_notClosed (by simp [hfault.1]) rfl
  · exact .rfl ps

theorem State.powerPlugRemoved_lowersSetpoint (s : State) : s.LowersSetpoint s.powerPlugRemoved := by
  have hcleared : s.LowersSetpoint ((s.linkView false false).withPs (s.linkView false false).ps.clearCloseFault) :=
    (s.linkView_lowersSetpoint false false).trans (State.withPs_lowersSetpoint (PowerStage.clearCloseFault_lowered _))
  unfold State.powerPlugRemoved
  dsimp only
  split
  · exact hcleared
  · exact hcleared.trans (State.setHolds_lowersSetpoint _ _)

theorem State.endDrawPhase_lowersSetpoint (power : Nat) (s : State) : s.LowersSetpoint (s.endDrawPhase power) := by
  unfold State.endDrawPhase
  split
  · next hdraw =>
      exact State.withPs_lowersSetpoint (PowerStage.lowered_of_notClosed (by simp [hdraw.1]) PowerStage.beginSensePhase_setpoint)
  · exact .rfl s

/-! ## The plug link's replies (R118 to R124) -/

theorem State.enterLost_lowersSetpoint (s : State) : s.LowersSetpoint s.enterLost := by
  have hdropped : s.LowersSetpoint s.linkDropped := (s.withPl_lowersSetpoint _).trans (State.handAccept_lowersSetpoint 0 _)
  have hreport : s.linkDropped.LowersSetpoint s.linkDropped.linkLostReport :=
    State.lowersSetpoint_of_told (s.linkDropped.linkLostReport_told rfl)
  rw [State.enterLost_eq]
  exact ((hdropped.trans hreport).trans (State.linkView_lowersSetpoint _ _ _)).trans (State.queueReport_lowersSetpoint _ _ _ _)

/-- A miss or a failure leaves the link with its counts, or takes it to LOST (R118, R119, R122). -/
theorem State.countedOrLost_lowersSetpoint {p : Prop} [Decidable p] (counted lost : PlugLink) (s : State) :
    s.LowersSetpoint (if p then s.withPl counted else (s.withPl lost).enterLost) := by
  split
  · exact s.withPl_lowersSetpoint counted
  · exact (s.withPl_lowersSetpoint lost).trans (State.enterLost_lowersSetpoint _)

theorem State.resetMissed_lowersSetpoint (s : State) : s.LowersSetpoint s.resetMissed := s.countedOrLost_lowersSetpoint _ _

theorem State.requestFailed_lowersSetpoint (command : LinkCommand) (s : State) : s.LowersSetpoint (s.requestFailed command) :=
  s.countedOrLost_lowersSetpoint _ _

theorem State.identFailed_lowersSetpoint (s : State) : s.LowersSetpoint s.identFailed := s.countedOrLost_lowersSetpoint _ _

theorem State.identValid_lowersSetpoint (v : VanIdentity) (s : State) : s.LowersSetpoint (s.identValid v) := by
  have hvan : ∀ t : State, t.LowersSetpoint (State.vanIdentified v.tag v.capacity t) := fun t =>
    State.lowersSetpoint_of_told (t.vanIdentified_told v.tag v.capacity rfl)
  exact ((s.withPl_lowersSetpoint _).trans (hvan _)).trans (State.linkView_lowersSetpoint _ _ _)

theorem State.recovered_lowersSetpoint (v : VanIdentity) (s : State) : s.LowersSetpoint (s.recovered v) := by
  have hsame : ∀ t : State, t.LowersSetpoint t.sameVan := fun t => State.lowersSetpoint_of_told (t.sameVan_told rfl)
  have hdifferent : ∀ t : State, t.LowersSetpoint (State.differentVan v.tag v.capacity t) := fun t =>
    State.lowersSetpoint_of_told (t.differentVan_told v.tag v.capacity rfl)
  unfold State.recovered
  dsimp only
  split
  · exact ((s.withPl_lowersSetpoint _).trans (hsame _)).trans (State.linkView_lowersSetpoint _ _ _)
  · exact ((s.withPl_lowersSetpoint _).trans (hdifferent _)).trans (State.linkView_lowersSetpoint _ _ _)

theorem State.statusValid_lowersSetpoint (st : LinkStatus) (s : State) : s.LowersSetpoint (s.statusValid st) := by
  have htaken : ∀ t : State, t.LowersSetpoint (t.takeStatus st.soc st.temperature) := fun t =>
    State.lowersSetpoint_of_told (t.takeStatus_told st.soc st.temperature rfl)
  exact (((s.withPl_lowersSetpoint _).trans (State.handAccept_lowersSetpoint _ _)).trans (htaken _)).trans
    (State.withPl_lowersSetpoint _ _)

/-! ## Frames at the blocks that own them (R14) -/

/-- An id conflict starts the conflict hold and leaves the claim timer (R38). -/
theorem State.viewClaim_claimTimer (claim : RxClaim) (s : State) : (s.viewClaim claim).sc.claimTimer = s.sc.claimTimer := by
  unfold State.viewClaim State.idConflict
  dsimp only
  (repeat' split) <;> simp

theorem State.viewClaim_lowersSetpoint (claim : RxClaim) (s : State) : s.LowersSetpoint (s.viewClaim claim) :=
  State.lowersSetpoint_of_ps (by simp) (htimer := s.viewClaim_claimTimer claim)

theorem State.handSite_lowersSetpoint (f : RxSite) (s : State) : s.LowersSetpoint (s.handSite f) := by
  have hsite : s.LowersSetpoint (s.withSc (s.sc.takeSite f.building)) := ⟨rfl, rfl, rfl, .rfl _⟩
  unfold State.handSite
  dsimp only
  refine .trans ?_ (State.offerAnchor_lowersSetpoint _ _)
  split
  · exact hsite.trans (State.withPs_lowersSetpoint (PowerStage.shed_lowered _))
  · exact hsite

/-! ## The commands, the supply events, the image and the claim period apart -/

/-- An accepted frame is counted and, in ACTIVE, handed to the blocks that own its kind (R14). -/
theorem State.frame_lowersSetpoint {kind : Nat} {check : Byte} {hand : State → State} (s : State)
    (hhand : ∀ u : State, u.LowersSetpoint (hand u)) :
    s.LowersSetpoint (if s.accepts kind check then
      if s.active then (hand (s.acceptFrame check)).settleLink else s.acceptFrame check
    else s) := by
  have hcounted := s.acceptFrame_lowersSetpoint check
  split
  · split
    · exact (hcounted.trans (hhand _)).trans (State.settleLink_lowersSetpoint _)
    · exact hcounted
  · exact .rfl s

theorem execClaimReceived_lowersSetpoint {check : Byte} (h : execClaimReceived check s = .next t) : s.LowersSetpoint t := by
  have hhand : ∀ (claim : RxClaim) (u : State), u.LowersSetpoint ((u.viewClaim claim).offerPeerTime claim.time) := fun claim u =>
    (u.viewClaim_lowersSetpoint claim).trans (State.lowersSetpoint_of_told (State.offerPeerTime_told _ claim.time rfl))
  cases h
  exact s.frame_lowersSetpoint (hhand _)

theorem execSiteReceived_lowersSetpoint {check : Byte} (h : execSiteReceived check s = .next t) : s.LowersSetpoint t := by
  cases h
  exact s.frame_lowersSetpoint (State.handSite_lowersSetpoint _)

theorem execPlanReceived_lowersSetpoint {check : Byte} (h : execPlanReceived check s = .next t) : s.LowersSetpoint t := by
  have hhand : ∀ (time : Nat) (plan : Plan) (u : State), u.LowersSetpoint ((u.offerAnchor time).judgePlan plan) := fun time plan u =>
    (u.offerAnchor_lowersSetpoint time).trans (State.lowersSetpoint_of_told (State.judgePlan_told _ plan rfl))
  cases h
  exact s.frame_lowersSetpoint (hhand _ _)

theorem execCancelReceived_lowersSetpoint {check : Byte} (h : execCancelReceived check s = .next t) : s.LowersSetpoint t := by
  have hhand : ∀ (tag : VanTag) (serial : Nat) (u : State), u.LowersSetpoint (u.takeCancel tag serial) := fun tag serial u =>
    State.lowersSetpoint_of_told (u.takeCancel_told tag serial rfl)
  cases h
  exact s.frame_lowersSetpoint (hhand _ _)

theorem execOscillatorSecond_lowersSetpoint (h : execOscillatorSecond s = .next t) : s.LowersSetpoint t := by
  have hclock : ∀ next : DepotClock, s.LowersSetpoint (s.moveClock next) := fun next =>
    State.lowersSetpoint_of_told (s.moveClock_told next rfl)
  cases h
  split
  · exact (hclock _).trans (State.settleLink_lowersSetpoint _)
  · exact .rfl s

theorem execDefaultPlanTimerExpiry_lowersSetpoint (h : execDefaultPlanTimerExpiry s = .next t) : s.LowersSetpoint t := by
  have hplan : s.LowersSetpoint s.adoptDefault := State.lowersSetpoint_of_told (s.adoptDefault_told rfl)
  cases h
  split
  · exact hplan.trans (State.settleLink_lowersSetpoint _)
  · exact .rfl s

theorem execEnergyPulse_lowersSetpoint (h : execEnergyPulse s = .next t) : s.LowersSetpoint t := by
  have hpulse : s.LowersSetpoint s.countPulse := State.lowersSetpoint_of_told (s.countPulse_told rfl)
  cases h
  exact hpulse.trans (State.settleLink_lowersSetpoint _)

theorem execPlugClosed_lowersSetpoint (h : execPlugClosed s = .next t) : s.LowersSetpoint t := by
  have hdetected : PowerStage.Lowered s.cfg s.ps { s.ps with plugDetected := true } := .rfl s.ps
  cases h
  split
  · exact (s.withPl_lowersSetpoint _).trans (State.withPs_lowersSetpoint (hdetected.trans PowerStage.judge_lowered))
  · exact .rfl s

theorem execPlugOpen_lowersSetpoint (h : execPlugOpen s = .next t) : s.LowersSetpoint t := by
  have hwalker : ∀ u : State, u.LowersSetpoint u.walkerPlugRemoved := fun u =>
    State.lowersSetpoint_of_told (u.walkerPlugRemoved_told rfl)
  cases h
  split
  · exact (((s.withPl_lowersSetpoint _).trans (State.handAccept_lowersSetpoint _ _)).trans (hwalker _)).trans
      (State.powerPlugRemoved_lowersSetpoint _)
  · exact .rfl s

theorem execLinkResetResult_lowersSetpoint {fellAt : Option Nat} {highAgain : Bool}
    (h : execLinkResetResult fellAt highAgain s = .next t) : s.LowersSetpoint t := by
  cases h
  split
  · split
    · split
      · exact s.withPl_lowersSetpoint _
      · exact s.resetMissed_lowersSetpoint
    · (repeat' split) <;> exact State.lowersSetpoint_of_ps (by simp)
  · exact .rfl s

theorem execIdentReply_lowersSetpoint {r : LinkReply} (h : execIdentReply r s = .next t) : s.LowersSetpoint t := by
  have hvalid : s.LowersSetpoint (if s.pl.link = .lost then s.recovered (readIdentity r.data) else s.identValid (readIdentity r.data)) := by
    split
    · exact s.recovered_lowersSetpoint _
    · exact s.identValid_lowersSetpoint _
  have hfailed : s.LowersSetpoint (if s.pl.link = .lost then s.withPl s.pl.endExchange else s.identFailed) := by
    split
    · exact s.withPl_lowersSetpoint _
    · exact s.identFailed_lowersSetpoint
  cases h
  split
  · split
    · split
      · exact s.withPl_lowersSetpoint _
      · exact s.withPl_lowersSetpoint _
      · exact hvalid.trans (State.settleLink_lowersSetpoint _)
      · exact hfailed
    · exact .rfl s
  · exact .rfl s

theorem execStatusReply_lowersSetpoint {r : LinkReply} (h : execStatusReply r s = .next t) : s.LowersSetpoint t := by
  cases h
  split
  · split
    · split
      · exact s.withPl_lowersSetpoint _
      · exact s.withPl_lowersSetpoint _
      · exact (s.statusValid_lowersSetpoint _).trans (State.settleLink_lowersSetpoint _)
      · exact s.requestFailed_lowersSetpoint _
    · exact .rfl s
  · exact .rfl s

theorem execHeaterReply_lowersSetpoint {r : LinkReply} (h : execHeaterReply r s = .next t) : s.LowersSetpoint t := by
  have hrefused : ∀ (heaters : Heaters) (u : State), u.LowersSetpoint (u.heaterRefused heaters) := fun heaters u =>
    State.lowersSetpoint_of_told (u.heaterRefused_told heaters rfl)
  cases h
  split
  · split
    · split
      · exact s.withPl_lowersSetpoint _
      · exact s.withPl_lowersSetpoint _
      · exact (s.withPl_lowersSetpoint _).trans (State.settleLink_lowersSetpoint _)
      · exact ((s.withPl_lowersSetpoint _).trans (hrefused _ _)).trans (State.settleLink_lowersSetpoint _)
      · exact s.requestFailed_lowersSetpoint _
    · exact .rfl s
  · exact .rfl s

theorem execSenseReadsClosed_lowersSetpoint (h : execSenseReadsClosed s = .next t) : s.LowersSetpoint t := by
  cases h
  dsimp only
  split
  · next hclosing => exact State.withPs_lowersSetpoint (PowerStage.lowered_of_notClosed (by simp [hclosing]) rfl)
  · exact State.withPs_lowersSetpoint (.rfl s.ps)

theorem execSenseReadsOpen_lowersSetpoint (h : execSenseReadsOpen s = .next t) : s.LowersSetpoint t := by
  have hsense : s.LowersSetpoint (s.withPs { s.ps with senseClosed := false }) := State.withPs_lowersSetpoint (.rfl s.ps)
  cases h
  dsimp only
  split
  · exact hsense.trans (State.failedClose_lowersSetpoint _)
  · next hopening =>
      exact State.withPs_lowersSetpoint (PowerStage.lowered_of_notClosed (by simp [hopening]) PowerStage.enterOpen_setpoint)
  · exact hsense

theorem execRetryWaitExpiry_lowersSetpoint (h : execRetryWaitExpiry s = .next t) : s.LowersSetpoint t := by
  have hwait : PowerStage.Lowered s.cfg s.ps { s.ps with retryWait := .stopped } := .rfl s.ps
  cases h
  split
  · exact State.withPs_lowersSetpoint (hwait.trans PowerStage.judge_lowered)
  · exact .rfl s

theorem execDrawWaitExpiry_lowersSetpoint (h : execDrawWaitExpiry s = .next t) : s.LowersSetpoint t := by
  cases h
  split
  · next hwait =>
      have hdraw : s.ps.contactor = .opening .draw := by simpa using (Bool.and_eq_true_iff.mp hwait).2
      exact State.withPs_lowersSetpoint (PowerStage.lowered_of_notClosed (by simp [hdraw]) PowerStage.beginSensePhase_setpoint)
  · exact .rfl s

theorem execDrawUpdate_lowersSetpoint {power : Nat} (h : execDrawUpdate power s = .next t) : s.LowersSetpoint t := by
  have hdraw : s.LowersSetpoint (s.withPs (s.ps.takeDraw power)) := State.withPs_lowersSetpoint (PowerStage.takeDraw_lowered power)
  cases h
  dsimp only
  split
  · refine (State.LowersSetpoint.trans ?_ (State.endDrawPhase_lowersSetpoint power _)).trans (State.settleLink_lowersSetpoint _)
    split
    · exact hdraw.trans (State.setHolds_lowersSetpoint _ _)
    · exact hdraw
  · exact .rfl s

theorem execMeterLost_lowersSetpoint (h : execMeterLost s = .next t) : s.LowersSetpoint t := by
  cases h
  dsimp only
  split
  · exact ((State.withPs_lowersSetpoint (PowerStage.lowered_to_zero rfl)).trans (State.setHolds_lowersSetpoint _ _)).trans
      (State.queueReport_lowersSetpoint _ _ _ _)
  · exact .rfl s

end

/-- The commands that start the part or post a share. -/
def startsOrPosts : Instr → Bool
  | .powerUp _ | .brownOut _ | .imageReadComplete _ _ | .claimPeriodExpiry => true
  | _ => false

/-- Every other command lowers the setpoint or leaves it: those of the line, of the clock and of the link's timers leave Power Stage Control
as it is, the rest by the operations above. -/
theorem exec_lowersSetpoint {i : Instr} {s t : State} (hi : startsOrPosts i = false) (h : exec i s = .next t) : s.LowersSetpoint t := by
  cases i
  case powerUp | brownOut | imageReadComplete | claimPeriodExpiry => simp [startsOrPosts] at hi
  case claimReceived => exact execClaimReceived_lowersSetpoint h
  case siteReceived => exact execSiteReceived_lowersSetpoint h
  case planReceived => exact execPlanReceived_lowersSetpoint h
  case cancelReceived => exact execCancelReceived_lowersSetpoint h
  case oscillatorSecond => exact execOscillatorSecond_lowersSetpoint h
  case defaultPlanTimerExpiry => exact execDefaultPlanTimerExpiry_lowersSetpoint h
  case energyPulse => exact execEnergyPulse_lowersSetpoint h
  case plugClosed => exact execPlugClosed_lowersSetpoint h
  case plugOpen => exact execPlugOpen_lowersSetpoint h
  case linkResetResult => exact execLinkResetResult_lowersSetpoint h
  case identReply => exact execIdentReply_lowersSetpoint h
  case statusReply => exact execStatusReply_lowersSetpoint h
  case heaterReply => exact execHeaterReply_lowersSetpoint h
  case senseReadsClosed => exact execSenseReadsClosed_lowersSetpoint h
  case senseReadsOpen => exact execSenseReadsOpen_lowersSetpoint h
  case closeSenseTimerExpiry =>
    cases h
    split
    · exact s.failedClose_lowersSetpoint
    · exact .rfl s
  case openSenseTimerExpiry =>
    cases h
    split
    · exact s.setWeldLatch_lowersSetpoint
    · exact .rfl s
  case retryWaitExpiry => exact execRetryWaitExpiry_lowersSetpoint h
  case drawWaitExpiry => exact execDrawWaitExpiry_lowersSetpoint h
  case drawUpdate => exact execDrawUpdate_lowersSetpoint h
  case meterLost => exact execMeterLost_lowersSetpoint h
  all_goals
    cases h
    (repeat' split) <;> exact State.lowersSetpoint_of_ps (by simp)

/-! ## The commands that start the part (R146, R149) -/

section
variable {s t : State}

theorem powerOn_setpointOk (brownOut senseClosed : Bool) (waiting : List Instr) : (powerOn brownOut senseClosed waiting).setpointOk :=
  ⟨PowerStage.setpointOk_zero rfl, fun _ => ⟨rfl, rfl⟩⟩

theorem State.enterActive_ps (c : Settings) (contactClosed : Bool) (s : State) :
    (s.enterActive c contactClosed).ps = PowerStage.judge true { s.ps with updateAge := some 0 } := by
  unfold State.enterActive
  dsimp only
  split <;> simp

theorem State.enterActive_setpoint_le (c : Settings) (contactClosed : Bool) (s : State) :
    (s.enterActive c contactClosed).ps.setpoint ≤ s.ps.setpoint := by
  rw [State.enterActive_ps]
  exact PowerStage.judge_setpoint_le

theorem State.judgeImage_setpoint_le (image : List Byte) (contactClosed : Bool) (s : State) :
    (s.judgeImage image contactClosed).ps.setpoint ≤ s.ps.setpoint := by
  unfold State.judgeImage
  split
  · exact State.enterActive_setpoint_le _ _ s
  · exact le_refl _

/-- An image is judged in LOADING, where the setpoint is 0. -/
theorem State.judgeImage_setpointOk (image : List Byte) (contactClosed : Bool) (hs : s.setpointOk) (hloading : s.loading = true) :
    (s.judgeImage image contactClosed).setpointOk := by
  have hconfig : s.sl.config = .loading := of_decide_eq_true hloading
  obtain ⟨hzero, htimer⟩ := hs.2 (by simp [hconfig])
  have hstill : (s.judgeImage image contactClosed).ps.setpoint = 0 :=
    Nat.le_zero.mp ((s.judgeImage_setpoint_le image contactClosed).trans_eq hzero)
  refine ⟨PowerStage.setpointOk_zero hstill, fun hne => ⟨hstill, ?_⟩⟩
  unfold State.judgeImage at hne ⊢
  split at hne
  · have hactive := congrArg StartUp.config (State.enterActive_blocks (readImage image) contactClosed s).1
    exact absurd hactive hne
  · next hinvalid =>
      rw [if_neg hinvalid]
      exact htimer

/-! ## The claim period (R54, R70) -/

/-- The posting, and after it no more than what the gate report has the walker tell (R70, R71). -/
theorem State.claimPeriod_told (s : State) :
    PowerStage.Told s.active (s.ps.takePosting s.cfg s.expiryShare) s.claimPeriod.ps := by
  have hgate : ∀ (policy : Option PolicyAnswer) (u : State), PowerStage.Told u.active u.ps (u.expiryGate policy).ps := by
    intro policy u
    cases policy with
    | none => exact .refl _
    | some answer => exact u.gateReport_told answer.gateClosed rfl
  have hannounced : s.claimPeriod.ps = s.expiryPosted.ps := by simp [State.claimPeriod]
  rw [hannounced]
  exact hgate s.currentLookup ((s.withPv s.pv.clearUnlisted).withPs (s.ps.takePosting s.cfg s.expiryShare))

/-- The share an expiry posts is one R67 allows: in ACTIVE no entry of the view bears the own id. -/
theorem State.expiryShare_ok (hview : s.viewOk) (hactive : s.sl.config = .active) : shareOk s.cfg s.expiryShare := by
  obtain ⟨⟨-, -, -, hentries, -⟩, hown, -⟩ := hview
  obtain ⟨hshare, hbay, -⟩ := shareStaysInBounds s fun e he => hown hactive ▸ (hentries e he).1
  exact hshare.imp_right fun ⟨hmin, _⟩ => ⟨hmin, hbay⟩

theorem execClaimPeriodExpiry_setpointOk (hview : s.viewOk) (hs : s.setpointOk) (h : execClaimPeriodExpiry s = .next t) :
    t.setpointOk := by
  cases h
  split
  · next hrunning =>
      have hactive : s.sl.config = .active := by
        by_contra hne
        simp [(hs.2 hne).2] at hrunning
      have hposted : s.claimPeriod.ps.setpointOk s.cfg :=
        s.claimPeriod_told.setpointOk (PowerStage.takePosting_setpointOk (State.expiryShare_ok hview hactive))
      exact ⟨by simpa using hposted, fun hne => absurd hactive (by simpa using hne)⟩
  · exact hs

theorem execClaimPeriodExpiry_setpoint_le (h : execClaimPeriodExpiry s = .next t) :
    t.ps.setpoint ≤ s.ps.setpoint ∨ t.ps.setpoint ≤ postedSetpoint s.cfg s.expiryShare s.ps := by
  have htold : PowerStage.Lowered s.cfg _ _ := s.claimPeriod_told.lowered
  cases h
  split
  · exact .inr (htold.1.trans PowerStage.takePosting_setpoint_le)
  · exact .inl (le_refl _)

end

/-! ## Every command (R132) -/

theorem exec_setpointOk {i : Instr} {s t : State} (hview : s.viewOk) (hs : s.setpointOk) (h : exec i s = .next t) : t.setpointOk := by
  cases i
  case powerUp => cases h; exact powerOn_setpointOk _ _ _
  case brownOut => cases h; exact powerOn_setpointOk _ _ _
  case imageReadComplete =>
    cases h
    split
    · next hread => exact State.judgeImage_setpointOk _ _ hs hread.1
    · exact hs
  case claimPeriodExpiry => exact execClaimPeriodExpiry_setpointOk hview hs h
  all_goals exact (exec_lowersSetpoint rfl h).setpointOk hs

theorem exec_setpoint_le {i : Instr} {s t : State} (hi : i ≠ .claimPeriodExpiry) (h : exec i s = .next t) :
    t.ps.setpoint ≤ s.ps.setpoint := by
  cases i
  case powerUp => cases h; exact Nat.zero_le _
  case brownOut => cases h; exact Nat.zero_le _
  case imageReadComplete =>
    cases h
    split
    · exact State.judgeImage_setpoint_le _ _ _
    · exact le_refl _
  case claimPeriodExpiry => exact absurd rfl hi
  all_goals exact (exec_lowersSetpoint rfl h).lowered.1

/-- What raises the setpoint is a posting, and a posting raises in CLOSED, with the meter good and no shed hold. -/
theorem exec_raises {i : Instr} {s t : State} (h : exec i s = .next t) (hraised : s.ps.setpoint < t.ps.setpoint) :
    i = .claimPeriodExpiry ∧ s.ps.contactor = .isClosed ∧ s.ps.meterLost = false ∧ s.ps.shedHold = 0 := by
  have hposting : i = .claimPeriodExpiry := by
    by_contra hne
    exact absurd hraised (exec_setpoint_le hne h).not_gt
  subst hposting
  have hposted : s.ps.setpoint < postedSetpoint s.cfg s.expiryShare s.ps := by
    have := execClaimPeriodExpiry_setpoint_le h
    omega
  have hfree := fun hbarred => hposted.not_ge (postedSetpoint_le_of_barred hbarred)
  simpa using hfree

/-- Settles O54: an idle step changes nothing, and any other is a command on the state with the queue's rest. -/
theorem setpointInvariantKept : Obligations.SetpointInvariantKept := by
  refine ⟨fun s t hview hs h => ?_, fun i s t h hraised => exec_raises h hraised⟩
  unfold step at h
  split at h
  · cases h
    exact hs
  · next rest _ => exact exec_setpointOk (s := { s with pending := rest }) hview hs h

end Sys2Proof.Machine
end

section
/-! PROOFS. The commissioning image (spec chapter 09): the checks it is accepted on (R148), and where its fields, its window slots and its
draw class codes stand (R161, 11 conventions). -/

namespace Sys2Proof.Machine

/-! ## The checks (R148) -/

/-- The checks of R148 as R148 lists them: the model's Boolean is their conjunction. -/
theorem imageValid_iff (c : Settings) : imageValid c = true ↔
    (1 ≤ c.stationId ∧ c.stationId ≤ 62)
      ∧ (10 ≤ c.pMin ∧ c.pMin ≤ c.pBay ∧ c.pBay ≤ 1500)
      ∧ (1 ≤ c.rampStep ∧ c.rampStep ≤ c.pBay)
      ∧ c.marginPermille ≤ 200
      ∧ (100 ≤ c.cap ∧ c.cap ≤ 60000)
      ∧ c.fallbackLoad ≤ 60000
      ∧ c.defaultDeparture < 1440
      ∧ (c.defaultTarget ≤ 1000 ∧ c.taperSoc ≤ 1000)
      ∧ (c.warmAllotment ≤ 3000 ∧ c.cabinAllotment ≤ 3000)
      ∧ (c.pMin ≤ c.taperCeiling ∧ c.taperCeiling ≤ c.pBay)
      ∧ c.windowCount ≤ 12
      ∧ (∀ w ∈ c.windows.take c.windowCount, w.startMinute < w.stopMinute ∧ w.stopMinute ≤ 1440)
      ∧ ∀ k ∈ c.classCodes, k ≤ 4 := by
  simp only [imageValid, validSender, Bool.and_eq_true, decide_eq_true_iff, List.all_eq_true, and_assoc]

/-! ## A field, a byte and a flag as numbers (11, conventions) -/

section
variable (bs : List Byte) (off : Nat)

/-- A field is its first byte and, 256 times that, the rest of it; past the end both sides are 0. -/
theorem fieldAt_succ (n : Nat) : fieldAt bs off (n + 1) = (byteAt bs off).toNat + 256 * fieldAt bs (off + 1) n := by
  unfold fieldAt byteAt
  by_cases hoff : off < bs.length
  · rw [List.drop_eq_getElem_cons hoff, List.take_succ_cons, leNat, List.getD_eq_getElem _ _ hoff]
  · have hpast : bs.length ≤ off := Nat.le_of_not_lt hoff
    rw [List.drop_eq_nil_of_le hpast, List.drop_eq_nil_of_le (Nat.le_succ_of_le hpast), List.getD_eq_default _ _ hpast]
    simp [leNat]

theorem fieldAt_one : fieldAt bs off 1 = (byteAt bs off).toNat := fieldAt_succ bs off 0

theorem fieldAt_two : fieldAt bs off 2 = (byteAt bs off).toNat + 256 * (byteAt bs (off + 1)).toNat := by
  rw [fieldAt_succ, fieldAt_one]

theorem flagAt_eq_testBit (i : Nat) : flagAt bs off i = (byteAt bs off).toNat.testBit i := (BitVec.testBit_toNat _).symm

theorem onAt_eq_toNat : onAt bs off = decide ((byteAt bs off).toNat ≠ 0) := by
  simp [onAt, BitVec.toNat_eq]

/-- A signed byte is its number, less 256 from 128 on. -/
theorem byte_toInt_eq (b : Byte) : b.toInt = if b.toNat < 128 then (b.toNat : Int) else (b.toNat : Int) - 256 := by
  rw [BitVec.toInt_eq_toNat_cond]
  split <;> split <;> omega

theorem markersAt_eq : markersAt bs off =
    ⟨(byteAt bs off).toNat.testBit 0, (byteAt bs off).toNat.testBit 1, (byteAt bs off).toNat.testBit 2⟩ := by
  simp only [markersAt, flagAt_eq_testBit]

end

/-! ## The window slots and the draw class codes (R161) -/

section
variable (img : List Byte)

theorem readImage_windows_getElem? {n : Nat} (hn : n < 12) : (readImage img).windows[n]? = some (windowAt img n) := by
  simp [readImage, hn]

/-- A slot with its three offsets counted from the image's start. -/
theorem windowAt_eq (n : Nat) : windowAt img n =
    ⟨fieldAt img (32 + 5 * n) 2, fieldAt img (34 + 5 * n) 2, markersAt img (36 + 5 * n)⟩ := by
  have hstop : 32 + 5 * n + 2 = 34 + 5 * n := by omega
  have hmarkers : 32 + 5 * n + 4 = 36 + 5 * n := by omega
  rw [windowAt, hstop, hmarkers]

theorem readImage_classCodes_getElem? {i : Nat} (hi : i < 8) : (readImage img).classCodes[i]? = some (classCodeAt img i) := by
  simp [readImage, hi]

/-- The even code is the low half of its byte. -/
theorem classCodeAt_even (n : Nat) : classCodeAt img (2 * n) = (byteAt img (92 + n)).toNat % 16 := by
  simp [classCodeAt, fieldAt_one]

/-- The odd code is the high half of its byte, below 16 as a byte is below 256. -/
theorem classCodeAt_odd (n : Nat) : classCodeAt img (2 * n + 1) = (byteAt img (92 + n)).toNat / 16 := by
  have hbyte : (byteAt img (92 + n)).toNat < 256 := (byteAt img (92 + n)).isLt
  have hhalf : (2 * n + 1) / 2 = n := by omega
  have hodd : (2 * n + 1) % 2 ≠ 0 := by omega
  rw [classCodeAt, if_neg hodd, hhalf, fieldAt_one]
  omega

end

/-- Settles O4: the checks are a conjunction, and every field, slot and code is read from the bytes of its own offset. -/
theorem imageAcceptedWhenEveryCheckPasses : Obligations.ImageAcceptedWhenEveryCheckPasses := by
  refine ⟨imageValid_iff, fun img _ => ⟨?fields, by simp [readImage], by simp [readImage], fun n hn => ?slot, fun n hn => ⟨?even, ?odd⟩⟩⟩
  case fields =>
    simp only [readImage, fieldAt_one, fieldAt_two, onAt_eq_toNat, markersAt_eq, byte_toInt_eq]
    rfl
  case slot =>
    rw [readImage_windows_getElem? img hn, windowAt_eq]
    simp only [fieldAt_two, markersAt_eq]
    rfl
  case even =>
    rw [readImage_classCodes_getElem? img (by omega), classCodeAt_even]
    rfl
  case odd =>
    rw [readImage_classCodes_getElem? img (by omega), classCodeAt_odd]
    rfl

end Sys2Proof.Machine
end

section
/-! PROOFS. What packages every invariant: one kept by every command, and asking nothing of the waiting commands, is kept by every step. -/

namespace Sys2Proof.Machine

theorem step_keeps {P : State → Prop} (hpending : ∀ (s : State) (rest : List Instr), P s → P { s with pending := rest })
    (hexec : ∀ (c : Instr) (s t : State), P s → exec c s = .next t → P t) (s t : State) (hs : P s) (h : step s = .next t) : P t := by
  unfold step at h
  split at h
  · cases h
    exact hs
  · exact hexec _ _ _ (hpending _ _ hs) h

end Sys2Proof.Machine
end

section
/-! PROOFS. The depot line's invariant (spec chapter 01): each of the line's own commands leaves the Line Interface in order, and every other
command only queues frames (R1 to R24). -/

namespace Sys2Proof.Machine

section
variable {s t : State}

/-! ## The invariant in its two parts -/

theorem State.lineOk_iff : s.lineOk ↔ LineInterface.sound s.li ∧ (s.sl.config = .loading → s.li.line = .gap) := by
  unfold State.lineOk LineInterface.sound
  tauto

theorem State.not_loading_of_lineIs {l : LineState} (h : s.lineIs l = true) : s.sl.config ≠ .loading := by
  have hnot := (Bool.and_eq_true_iff.mp h).1
  simpa [State.loading] using hnot

/-- Out of LOADING all that is asked is that the Line Interface is in order. -/
theorem State.lineOk_of_awake (hawake : s.sl.config ≠ .loading) (hsound : LineInterface.sound t.li) (hconfig : t.sl.config = s.sl.config) :
    t.lineOk :=
  State.lineOk_iff.mpr ⟨hsound, fun hloading => absurd (hconfig ▸ hloading) hawake⟩

/-! ## Commands that only queue frames -/

/-- From `s` to `t` frames were queued and attempts begun, and no more at the Line Interface. -/
def State.QueuesOnly (s t : State) : Prop := t.sl.config = s.sl.config ∧ s.li.Queued t.li

theorem State.queuesOnly_of_li (hli : t.li = s.li) (hconfig : t.sl.config = s.sl.config := by simp) : s.QueuesOnly t :=
  ⟨hconfig, hli ▸ .refl _⟩

/-- Queueing keeps the invariant: in LOADING the line is in GAP, where no attempt begins. -/
theorem State.QueuesOnly.lineOk (h : s.QueuesOnly t) (hs : s.lineOk) : t.lineOk := by
  obtain ⟨hconfig, hqueued⟩ := h
  obtain ⟨hsound, hgap⟩ := State.lineOk_iff.mp hs
  refine State.lineOk_iff.mpr ⟨LineInterface.queued_sound hqueued hsound, fun hloading => ?_⟩
  have hline := hgap (hconfig ▸ hloading)
  obtain ⟨-, -, -, -, -, -, -, hkept | ⟨hidle, -⟩⟩ := hqueued.rest
  · exact hkept.trans hline
  · exact absurd (hline.symm.trans hidle) (by decide)

/-- The commands of the depot line itself, of the supply and of the image. -/
def worksTheLine : Instr → Bool
  | .powerUp _ | .brownOut _ | .imageReadComplete _ _ | .frameGapComplete | .joinForeignStart | .arbitrationLoss | .transmitMismatch
  | .frameSentWhole | .diagSentWhole | .lineClear | .lineStuck | .lineStuckRelease | .openingFailure _ | .missingStopBit | .truncation
  | .lengthFailure _ | .checkFailure _ | .unexpectedFrame _ | .claimReceived _ | .siteReceived _ | .planReceived _ | .cancelReceived _
  | .diagAskReceived _ | .otherReportReceived _ | .byteTaken _ | .dominantLevelInGap => true
  | _ => false

theorem execIdentReply_queuesOnly {r : LinkReply} (h : execIdentReply r s = .next t) : s.QueuesOnly t := by
  cases h
  split
  · split
    · split
      · exact State.queuesOnly_of_li rfl
      · exact State.queuesOnly_of_li rfl
      · split
        · exact ⟨by simp, by simpa using s.recovered_queued _⟩
        · exact ⟨by simp, by simpa using s.identValid_queued _⟩
      · split
        · exact State.queuesOnly_of_li rfl
        · exact ⟨by simp, s.identFailed_queued⟩
    · exact State.queuesOnly_of_li rfl
  · exact State.queuesOnly_of_li rfl

theorem execStatusReply_queuesOnly {r : LinkReply} (h : execStatusReply r s = .next t) : s.QueuesOnly t := by
  cases h
  split
  · split
    · split
      · exact State.queuesOnly_of_li rfl
      · exact State.queuesOnly_of_li rfl
      · exact ⟨by simp, by simpa using s.statusValid_queued _⟩
      · exact ⟨by simp, s.requestFailed_queued _⟩
    · exact State.queuesOnly_of_li rfl
  · exact State.queuesOnly_of_li rfl

theorem execHeaterReply_queuesOnly {r : LinkReply} (h : execHeaterReply r s = .next t) : s.QueuesOnly t := by
  cases h
  split
  · split
    · split
      · exact State.queuesOnly_of_li rfl
      · exact State.queuesOnly_of_li rfl
      · exact State.queuesOnly_of_li rfl
      · exact ⟨by simp, by simpa using State.heaterRefused_queued (s.withPl s.pl.complete) _⟩
      · exact ⟨by simp, s.requestFailed_queued _⟩
    · exact State.queuesOnly_of_li rfl
  · exact State.queuesOnly_of_li rfl

/-- Every other command leaves the Line Interface, or reaches it through an operation of another block that queues (Laws/Queueing). -/
theorem exec_queuesOnly {c : Instr} (hc : worksTheLine c = false) (h : exec c s = .next t) : s.QueuesOnly t := by
  cases c
  case powerUp | brownOut | imageReadComplete | frameGapComplete | joinForeignStart | arbitrationLoss | transmitMismatch | frameSentWhole
      | diagSentWhole | lineClear | lineStuck | lineStuckRelease | openingFailure | missingStopBit | truncation | lengthFailure
      | checkFailure | unexpectedFrame | claimReceived | siteReceived | planReceived | cancelReceived | diagAskReceived
      | otherReportReceived | byteTaken | dominantLevelInGap =>
    simp [worksTheLine] at hc
  case oscillatorSecond =>
    cases h
    split
    · exact ⟨by simp, by simpa using s.moveClock_queued _⟩
    · exact State.queuesOnly_of_li rfl
  case claimPeriodExpiry =>
    cases h
    split
    · exact ⟨by simp, by simpa using s.claimPeriod_queued⟩
    · exact State.queuesOnly_of_li rfl
  case defaultPlanTimerExpiry =>
    cases h
    split
    · exact ⟨by simp, by simpa using s.adoptDefault_queued⟩
    · exact State.queuesOnly_of_li rfl
  case energyPulse =>
    cases h
    exact ⟨by simp, by simpa using s.countPulse_queued⟩
  case plugOpen =>
    cases h
    split
    · exact ⟨by simp, by simpa using State.walkerPlugRemoved_queued (State.handAccept 0 (s.withPl s.pl.unplug))⟩
    · exact State.queuesOnly_of_li rfl
  case linkResetResult =>
    cases h
    split
    · split
      · split
        · exact State.queuesOnly_of_li rfl
        · exact ⟨by simp, s.resetMissed_queued⟩
      · (repeat' split) <;> exact State.queuesOnly_of_li rfl
    · exact State.queuesOnly_of_li rfl
  case identReply => exact execIdentReply_queuesOnly h
  case statusReply => exact execStatusReply_queuesOnly h
  case heaterReply => exact execHeaterReply_queuesOnly h
  case senseReadsClosed =>
    cases h
    dsimp only
    split <;> exact State.queuesOnly_of_li rfl
  case senseReadsOpen =>
    cases h
    dsimp only
    split
    · exact ⟨by simp, State.failedClose_queued (s.withPs { s.ps with senseClosed := false })⟩
    · exact State.queuesOnly_of_li rfl
    · exact State.queuesOnly_of_li rfl
  case closeSenseTimerExpiry =>
    cases h
    split
    · exact ⟨by simp, s.failedClose_queued⟩
    · exact State.queuesOnly_of_li rfl
  case openSenseTimerExpiry =>
    cases h
    split
    · exact ⟨by simp, s.setWeldLatch_queued⟩
    · exact State.queuesOnly_of_li rfl
  case drawUpdate =>
    cases h
    dsimp only
    (repeat' split) <;> exact State.queuesOnly_of_li (by simp)
  case meterLost =>
    cases h
    dsimp only
    split
    · refine ⟨by simp, ?_⟩
      simpa using State.queueReport_queued .fault s.pw.tag causeMeterLost
        (State.setHolds { s.pw.holds with meterLost := true } (s.withPs { s.ps with meterLost := true, setpoint := 0, updateAge := some 3 }))
    · exact State.queuesOnly_of_li rfl
  all_goals
    cases h
    (repeat' split) <;> exact State.queuesOnly_of_li rfl

/-! ## Frames received (R9 to R14) -/

theorem State.acceptFrame_lineOk {kind : Nat} {check : Byte} (hs : s.lineOk) (haccepts : s.accepts kind check = true) :
    (s.acceptFrame check).lineOk :=
  State.lineOk_of_awake (State.not_loading_of_lineIs (Bool.and_eq_true_iff.mp haccepts).1)
    (s.acceptFrame_sound check (State.lineOk_iff.mp hs).1 (State.accepts_line haccepts)) rfl

/-- An accepted frame is counted and, in ACTIVE, handed to the block that owns its kind, which can only queue frames (R14). -/
theorem State.frame_lineOk {kind : Nat} {check : Byte} {handed : State} (hs : s.lineOk)
    (hqueued : (s.acceptFrame check).QueuesOnly handed) :
    (if s.accepts kind check then if s.active then handed else s.acceptFrame check else s).lineOk := by
  split
  · next haccepts =>
      have hcounted := State.acceptFrame_lineOk hs haccepts
      split
      · exact hqueued.lineOk hcounted
      · exact hcounted
  · exact hs

theorem execClaimReceived_lineOk {check : Byte} (hs : s.lineOk) (h : execClaimReceived check s = .next t) : t.lineOk := by
  cases h
  refine State.frame_lineOk hs ⟨by simp, ?_⟩
  simpa using (State.viewClaim_queued (s.acceptFrame check) _).trans (State.offerPeerTime_queued _ _)

theorem execSiteReceived_lineOk {check : Byte} (hs : s.lineOk) (h : execSiteReceived check s = .next t) : t.lineOk := by
  cases h
  refine State.frame_lineOk hs ⟨by simp, ?_⟩
  simpa using State.handSite_queued (s.acceptFrame check) _

theorem execPlanReceived_lineOk {check : Byte} (hs : s.lineOk) (h : execPlanReceived check s = .next t) : t.lineOk := by
  cases h
  refine State.frame_lineOk hs ⟨by simp, ?_⟩
  simpa using (State.offerAnchor_queued (s.acceptFrame check) _).trans (State.judgePlan_queued _ _)

theorem execCancelReceived_lineOk {check : Byte} (hs : s.lineOk) (h : execCancelReceived check s = .next t) : t.lineOk := by
  cases h
  refine State.frame_lineOk hs ⟨by simp, ?_⟩
  simpa using State.takeCancel_queued (s.acceptFrame check) _ _

theorem execDiagAskReceived_lineOk {check : Byte} (hs : s.lineOk) (h : execDiagAskReceived check s = .next t) : t.lineOk := by
  cases h
  split
  · next haccepts =>
      have hcounted := State.acceptFrame_lineOk hs haccepts
      dsimp only
      split
      · exact State.QueuesOnly.lineOk ⟨by simp, State.enqueue_queued _ _⟩ hcounted
      · exact hcounted
  · exact hs

theorem execOtherReportReceived_lineOk {check : Byte} (hs : s.lineOk) (h : execOtherReportReceived check s = .next t) : t.lineOk := by
  cases h
  split
  · next haccepts => exact (Bool.or_eq_true_iff.mp haccepts).elim (State.acceptFrame_lineOk hs) (State.acceptFrame_lineOk hs)
  · exact hs

theorem execByteTaken_lineOk {b : Byte} (hs : s.lineOk) (h : execByteTaken b s = .next t) : t.lineOk := by
  cases h
  split
  · next hkeeps =>
      obtain ⟨hline, hbyte⟩ := Bool.and_eq_true_iff.mp hkeeps
      obtain ⟨⟨hqueue, hcounts, ⟨-, hheader, hlength⟩, houtput⟩, -⟩ := State.lineOk_iff.mp hs
      have hbuffer := keepsByte_buffer _ b hheader hlength hbyte
      refine State.lineOk_of_awake (State.not_loading_of_lineIs hline) ⟨hqueue, hcounts, ⟨fun hne => ?_, hbuffer⟩, houtput⟩ rfl
      exact absurd (State.lineIs_eq hline) hne
  · exact hs

/-! ## Ends of a received frame, and the line's own events (R2 to R5, R9 to R13) -/

/-- Out of SENDING the Line Interface stays in order in any state but SENDING, whatever the flags, with its counts in their ranges and an
empty buffer. -/
theorem State.lineOk_of_quiet {li : LineInterface} (hs : s.lineOk) (hawake : s.sl.config ≠ .loading) (hfrom : s.li.line ≠ .sending)
    (hto : li.line ≠ .sending) (hbuffer : li.rxBuffer = []) (hqueue : li.queue = s.li.queue) (houtput : li.output = s.li.output)
    (hvalid : li.validCount ≤ 65535) (hdiscard : li.discardCount ≤ 255) : (s.withLi li).lineOk := by
  obtain ⟨line, recessive, buffer, queue, valid, discard, errors, stuck, seen, output, clear⟩ := li
  cases hbuffer
  cases hqueue
  cases houtput
  exact State.lineOk_of_awake hawake (State.quiet_sound _ _ _ _ _ _ _ _ hto (State.lineOk_iff.mp hs).1 hfrom hvalid hdiscard) rfl

theorem State.counts_of_lineOk (hs : s.lineOk) : s.li.validCount ≤ 65535 ∧ s.li.discardCount ≤ 255 := hs.2.1

/-- A received frame that ends, or a line clear, leaves the line in GAP and the counts no higher than their tops. -/
theorem State.lineOk_of_gap {li : LineInterface} (hs : s.lineOk) (hawake : s.sl.config ≠ .loading) (hfrom : s.li.line ≠ .sending)
    (hgap : li.line = .gap) (hbuffer : li.rxBuffer = []) (hqueue : li.queue = s.li.queue) (houtput : li.output = s.li.output)
    (hvalid : li.validCount = s.li.validCount)
    (hdiscard : li.discardCount = s.li.discardCount ∨ li.discardCount = raiseTo 255 s.li.discardCount) : (s.withLi li).lineOk := by
  obtain ⟨hv, hd⟩ := State.counts_of_lineOk hs
  refine State.lineOk_of_quiet hs hawake hfrom (by simp [hgap]) hbuffer hqueue houtput (hvalid.trans_le hv) ?_
  rcases hdiscard with hkept | hraised
  · exact hkept.trans_le hd
  · exact hraised.trans_le (raiseTo_le _ _ hd)

/-- What ends a received frame is met in RECEIVING. -/
theorem State.lineOk_of_received {li : LineInterface} (hs : s.lineOk) (hline : s.lineIs .receiving = true)
    (hgap : li.line = .gap) (hbuffer : li.rxBuffer = []) (hqueue : li.queue = s.li.queue) (houtput : li.output = s.li.output)
    (hvalid : li.validCount = s.li.validCount)
    (hdiscard : li.discardCount = s.li.discardCount ∨ li.discardCount = raiseTo 255 s.li.discardCount) : (s.withLi li).lineOk :=
  State.lineOk_of_gap hs (State.not_loading_of_lineIs hline) (by simp [State.lineIs_eq hline]) hgap hbuffer hqueue houtput hvalid hdiscard

theorem execOpeningFailure_lineOk {f : HeaderFailure} (hs : s.lineOk) (h : execOpeningFailure f s = .next t) : t.lineOk := by
  cases h
  split
  · next hends =>
      simp only [Bool.and_eq_true] at hends
      obtain ⟨⟨hline, -⟩, -⟩ := hends
      exact State.lineOk_of_received hs hline rfl rfl rfl rfl rfl (.inl rfl)
  · exact hs

theorem execMissingStopBit_lineOk (hs : s.lineOk) (h : execMissingStopBit s = .next t) : t.lineOk := by
  cases h
  split
  · next hends =>
      simp only [Bool.and_eq_true] at hends
      obtain ⟨hline, -⟩ := hends
      exact State.lineOk_of_received hs hline rfl rfl rfl rfl rfl (.inl rfl)
  · exact hs

theorem execLengthFailure_lineOk {len : Byte} (hs : s.lineOk) (h : execLengthFailure len s = .next t) : t.lineOk := by
  cases h
  split
  · next hends =>
      simp only [Bool.and_eq_true] at hends
      obtain ⟨⟨hline, -⟩, -⟩ := hends
      exact State.lineOk_of_received hs hline rfl rfl rfl rfl rfl (.inr rfl)
  · exact hs

theorem execCheckFailure_lineOk {check : Byte} (hs : s.lineOk) (h : execCheckFailure check s = .next t) : t.lineOk := by
  cases h
  split
  · next hends =>
      simp only [Bool.and_eq_true] at hends
      obtain ⟨⟨hline, -⟩, -⟩ := hends
      exact State.lineOk_of_received hs hline rfl rfl rfl rfl rfl (.inr rfl)
  · exact hs

theorem execUnexpectedFrame_lineOk {check : Byte} (hs : s.lineOk) (h : execUnexpectedFrame check s = .next t) : t.lineOk := by
  cases h
  split
  · next hends =>
      simp only [Bool.and_eq_true] at hends
      obtain ⟨⟨⟨hline, -⟩, -⟩, -⟩ := hends
      exact State.lineOk_of_received hs hline rfl rfl rfl rfl rfl (.inr rfl)
  · exact hs

theorem State.trySend_lineOk (hs : s.lineOk) : s.trySend.lineOk :=
  State.QueuesOnly.lineOk ⟨by simp, s.trySend_queued⟩ hs

theorem execTruncation_lineOk (hs : s.lineOk) (h : execTruncation s = .next t) : t.lineOk := by
  cases h
  split
  · next hends =>
      simp only [Bool.and_eq_true] at hends
      obtain ⟨hline, -⟩ := hends
      obtain ⟨hvalid, hdiscard⟩ := State.counts_of_lineOk hs
      exact State.trySend_lineOk (State.lineOk_of_quiet hs (State.not_loading_of_lineIs hline) (by simp [State.lineIs_eq hline]) (by simp)
        rfl rfl rfl hvalid hdiscard)
  · exact hs

theorem execLineClear_lineOk (hs : s.lineOk) (h : execLineClear s = .next t) : t.lineOk := by
  cases h
  split
  · exact hs
  · next hfree =>
      simp only [Bool.or_eq_true, decide_eq_true_eq, State.loading, not_or] at hfree
      exact State.lineOk_of_gap hs hfree.1 hfree.2 rfl rfl rfl rfl rfl (.inl rfl)

theorem execLineStuck_lineOk (hs : s.lineOk) (h : execLineStuck s = .next t) : t.lineOk := by
  cases h
  split
  · exact hs
  · next hfree =>
      simp only [Bool.or_eq_true, decide_eq_true_eq, State.loading, not_or] at hfree
      obtain ⟨⟨hqueue, hcounts, hbuffer, houtput⟩, -⟩ := State.lineOk_iff.mp hs
      obtain ⟨hlist, honline, -⟩ := (LineInterface.queueOk_iff _).mp hqueue
      exact State.lineOk_of_awake hfree.1
        ⟨(LineInterface.queueOk_iff _).mpr ⟨hlist, honline, fun _ => hfree.2⟩, hcounts, hbuffer, houtput⟩ rfl

theorem execLineStuckRelease_lineOk (hs : s.lineOk) (h : execLineStuckRelease s = .next t) : t.lineOk := by
  cases h
  split
  · next hstuck =>
      simp only [State.loading, Bool.and_eq_true, Bool.not_eq_true', decide_eq_false_iff_not] at hstuck
      obtain ⟨-, -, -, -, -, hquiet, -⟩ := hs.1
      exact State.lineOk_of_gap hs hstuck.1 (hquiet hstuck.2) rfl rfl rfl rfl rfl (.inl rfl)
  · exact hs

/-! ## The frame gap, foreign starts and the ends of an attempt (R5, R16 to R22) -/

theorem execFrameGapComplete_lineOk (hs : s.lineOk) (h : execFrameGapComplete s = .next t) : t.lineOk := by
  cases h
  split
  · next hgap =>
      simp only [Bool.and_eq_true] at hgap
      have hline := State.lineIs_eq hgap.1
      have hempty : s.li.rxBuffer = [] := hs.2.2.1.1 (by simp [hline])
      obtain ⟨hvalid, hdiscard⟩ := State.counts_of_lineOk hs
      exact State.trySend_lineOk (State.lineOk_of_quiet hs (State.not_loading_of_lineIs hgap.1) (by simp [hline]) (by simp)
        hempty rfl rfl hvalid hdiscard)
  · exact hs

theorem execDominantLevelInGap_lineOk (hs : s.lineOk) (h : execDominantLevelInGap s = .next t) : t.lineOk := by
  cases h
  split <;> exact hs

theorem execJoinForeignStart_lineOk (hs : s.lineOk) (h : execJoinForeignStart s = .next t) : t.lineOk := by
  cases h
  split
  · next hidle =>
      have hline := State.lineIs_eq hidle
      split
      · next hmay =>
          have hsent := State.trySend_lineOk hs
          rwa [State.trySend, if_pos hmay] at hsent
      · obtain ⟨hvalid, hdiscard⟩ := State.counts_of_lineOk hs
        exact State.lineOk_of_quiet hs (State.not_loading_of_lineIs hidle) (by simp [hline]) (by simp) rfl rfl rfl hvalid hdiscard
  · exact hs

/-- An attempt that ends leaves the line recessive, no frame on it and the rest of the queue in order. -/
theorem State.lineOk_of_released {li : LineInterface} (hawake : s.sl.config ≠ .loading) (hto : li.line ≠ .sending)
    (hbuffer : li.rxBuffer = []) (houtput : li.output = .recessive)
    (hqueue : queueListOk li.queue ∧ li.queue.countP QueueEntry.onLine = 0)
    (hvalid : li.validCount ≤ 65535) (hdiscard : li.discardCount ≤ 255) : (s.withLi li).lineOk := by
  obtain ⟨line, recessive, buffer, queue, valid, discard, errors, stuck, seen, output, clear⟩ := li
  cases hbuffer
  exact State.lineOk_of_awake hawake
    (LineInterface.quiet_sound _ _ _ _ _ _ _ _ _ hvalid hdiscard hqueue.1 hqueue.2 _ hto houtput) rfl

theorem State.queueListOk_of_lineOk (hs : s.lineOk) : queueListOk s.li.queue := ((LineInterface.queueOk_iff _).mp hs.1).1

theorem execArbitrationLoss_lineOk (hs : s.lineOk) (h : execArbitrationLoss s = .next t) : t.lineOk := by
  cases h
  split
  · next hsending =>
      obtain ⟨hvalid, hdiscard⟩ := State.counts_of_lineOk hs
      exact State.lineOk_of_released (State.not_loading_of_lineIs hsending) (by simp) rfl rfl
        (offLine_queueListOk _ (State.queueListOk_of_lineOk hs)) hvalid hdiscard
  · exact hs

theorem execTransmitMismatch_lineOk (hs : s.lineOk) (h : execTransmitMismatch s = .next t) : t.lineOk := by
  cases h
  split
  · next hsending =>
      obtain ⟨hvalid, hdiscard⟩ := State.counts_of_lineOk hs
      exact State.lineOk_of_released (State.not_loading_of_lineIs hsending) (by simp [LineInterface.enterGap]) rfl rfl
        (mismatchEntry_queueListOk _ (State.queueListOk_of_lineOk hs)) hvalid hdiscard
  · exact hs

theorem execFrameSentWhole_lineOk (hs : s.lineOk) (h : execFrameSentWhole s = .next t) : t.lineOk := by
  cases h
  split
  · next hsent =>
      obtain ⟨hvalid, hdiscard⟩ := State.counts_of_lineOk hs
      exact State.lineOk_of_released (State.not_loading_of_lineIs (Bool.and_eq_true_iff.mp hsent).1)
        (by simp [LineInterface.enterGap, LineInterface.raiseValid]) rfl rfl
        (sentWholeEntry_queueListOk _ (State.queueListOk_of_lineOk hs)) (raiseTo_le _ _ hvalid) hdiscard
  · exact hs

theorem execDiagSentWhole_lineOk (hs : s.lineOk) (h : execDiagSentWhole s = .next t) : t.lineOk := by
  cases h
  split
  · next hsent =>
      have hawake := State.not_loading_of_lineIs (Bool.and_eq_true_iff.mp hsent).1
      refine State.lineOk_of_awake hawake (LineInterface.quiet_sound _ _ _ _ _ _ _ _ _ (Nat.zero_le _) (Nat.zero_le _)
        (sentWholeEntry_queueListOk _ (State.queueListOk_of_lineOk hs)).1
        (sentWholeEntry_queueListOk _ (State.queueListOk_of_lineOk hs)).2 .gap (by simp) rfl) rfl
  · exact hs

/-! ## The supply events and the image (R24, R146 to R150) -/

theorem powerOn_lineOk (brownOut senseClosed : Bool) (waiting : List Instr) : (powerOn brownOut senseClosed waiting).lineOk :=
  State.lineOk_iff.mpr ⟨LineInterface.reset_sound, fun _ => rfl⟩

/-- As LOADING is left the line is in GAP as before, with the recessive count anew. -/
theorem LineInterface.enterGap_sound {li : LineInterface} (recessive : Nat) (h : LineInterface.sound li) (hgap : li.line = .gap) :
    LineInterface.sound (li.enterGap recessive) := by
  obtain ⟨line, r, buffer, queue, valid, discard, errors, stuck, seen, output, clear⟩ := li
  cases hgap
  obtain ⟨hqueue, hcounts, -, houtput⟩ := h
  exact ⟨hqueue, hcounts, by simp [LineInterface.bufferOk, LineInterface.enterGap], houtput⟩

/-- The part as an accepted image starts it, before a weld found at power-on is reported (R149). -/
def State.started (c : Settings) (contactClosed : Bool) (s : State) : State :=
  { s with
    sl := s.sl.afterRead .active c.stationId,
    cfg := c,
    li := s.li.enterGap 0,
    sc := { s.sc with claimTimer := .running (c.stationId % 8 * 500) },
    pv := { s.pv with tallyTimer := .running 4000 },
    pl := s.pl.firstSample contactClosed,
    ps := PowerStage.judge true { s.ps with updateAge := some 0 } }

theorem State.enterActive_eq (c : Settings) (contactClosed : Bool) (s : State) :
    s.enterActive c contactClosed =
      if s.ps.weldLatch then (s.started c contactClosed).queueReport .fault s.pw.tag causeWeld else s.started c contactClosed := by
  have hlatch : (s.started c contactClosed).ps.weldLatch = s.ps.weldLatch := PowerStage.judge_weldLatch
  rw [← hlatch]
  rfl

theorem State.enterActive_queued (c : Settings) (contactClosed : Bool) (s : State) :
    (s.li.enterGap 0).Queued (s.enterActive c contactClosed).li := by
  rw [State.enterActive_eq]
  split
  · exact (s.started c contactClosed).queueReport_queued _ _ _
  · exact .refl _

theorem execImageReadComplete_lineOk {bits : List Bool} {contactClosed : Bool} (hs : s.lineOk)
    (h : execImageReadComplete bits contactClosed s = .next t) : t.lineOk := by
  cases h
  split
  · next hread =>
      obtain ⟨hsound, hgap⟩ := State.lineOk_iff.mp hs
      have hentered := LineInterface.enterGap_sound 0 hsound (hgap (of_decide_eq_true hread.1))
      rw [State.lineOk_iff]
      unfold State.judgeImage
      split
      · obtain ⟨hsl, -, -⟩ := State.enterActive_blocks (readImage (serialBytes 96 bits)) contactClosed s
        exact ⟨LineInterface.queued_sound (State.enterActive_queued _ _ _) hentered, fun hloading => by simp [hsl, StartUp.afterRead] at hloading⟩
      · exact ⟨hentered, fun hloading => ConfigState.noConfusion hloading⟩
  · exact hs

/-! ## Every command -/

theorem exec_lineOk {c : Instr} (hs : s.lineOk) (h : exec c s = .next t) : t.lineOk := by
  cases c
  case powerUp => cases h; exact powerOn_lineOk _ _ _
  case brownOut => cases h; exact powerOn_lineOk _ _ _
  case imageReadComplete => exact execImageReadComplete_lineOk hs h
  case frameGapComplete => exact execFrameGapComplete_lineOk hs h
  case joinForeignStart => exact execJoinForeignStart_lineOk hs h
  case arbitrationLoss => exact execArbitrationLoss_lineOk hs h
  case transmitMismatch => exact execTransmitMismatch_lineOk hs h
  case frameSentWhole => exact execFrameSentWhole_lineOk hs h
  case diagSentWhole => exact execDiagSentWhole_lineOk hs h
  case lineClear => exact execLineClear_lineOk hs h
  case lineStuck => exact execLineStuck_lineOk hs h
  case lineStuckRelease => exact execLineStuckRelease_lineOk hs h
  case openingFailure => exact execOpeningFailure_lineOk hs h
  case missingStopBit => exact execMissingStopBit_lineOk hs h
  case truncation => exact execTruncation_lineOk hs h
  case lengthFailure => exact execLengthFailure_lineOk hs h
  case checkFailure => exact execCheckFailure_lineOk hs h
  case unexpectedFrame => exact execUnexpectedFrame_lineOk hs h
  case claimReceived => exact execClaimReceived_lineOk hs h
  case siteReceived => exact execSiteReceived_lineOk hs h
  case planReceived => exact execPlanReceived_lineOk hs h
  case cancelReceived => exact execCancelReceived_lineOk hs h
  case diagAskReceived => exact execDiagAskReceived_lineOk hs h
  case otherReportReceived => exact execOtherReportReceived_lineOk hs h
  case byteTaken => exact execByteTaken_lineOk hs h
  case dominantLevelInGap => exact execDominantLevelInGap_lineOk hs h
  all_goals exact (exec_queuesOnly rfl h).lineOk hs

end

/-- Settles O51, command by command. -/
theorem lineInvariantKept : Obligations.LineInvariantKept :=
  step_keeps (fun _ _ hs => hs) fun _ _ _ hs h => exec_lineOk hs h

end Sys2Proof.Machine
end

section
/-! PROOFS. The commands that reach the other blocks only through the Programme Walker's own operations, and what such an operation does: it
tells Power Stage Control its view, places requests at the Plug Link, and leaves the hold causes that other blocks own (R14, R27, R88, R125). -/

namespace Sys2Proof.Machine

section
variable {s t u : State}

/-- What an operation of the walker's own makes of the part. -/
structure State.Walked (s t : State) : Prop where
  config : t.sl.config = s.sl.config
  cfg : t.cfg = s.cfg
  told : PowerStage.Told s.active s.ps t.ps
  asked : s.pl.Asked t.pl
  ok : s.pw.ok → t.pw.ok
  causes : s.causesKept t
  views : s.viewsTold → t.viewsTold

theorem State.Walked.active (h : s.Walked t) : t.active = s.active := by
  unfold State.active
  rw [h.config]

theorem State.Walked.trans (h : s.Walked t) (k : t.Walked u) : s.Walked u where
  config := k.config.trans h.config
  cfg := k.cfg.trans h.cfg
  told := h.told.trans (h.active ▸ k.told)
  asked := h.asked.trans k.asked
  ok := k.ok ∘ h.ok
  causes := h.causes.trans k.causes
  views := k.views ∘ h.views

/-- An operation that leaves the walker, Power Stage Control and the Plug Link. -/
theorem State.walked_of_eq (hpw : t.pw = s.pw := by simp) (hps : t.ps = s.ps := by simp) (hpl : t.pl = s.pl := by simp)
    (hconfig : t.sl.config = s.sl.config := by simp) (hcfg : t.cfg = s.cfg := by simp) : s.Walked t where
  config := hconfig
  cfg := hcfg
  told := hps ▸ .refl _
  asked := hpl ▸ .refl _
  ok := fun hok => hpw ▸ hok
  causes := .of_pw hpw
  views := fun hviews => State.viewsTold_of_eq hviews hpw hps

theorem State.Walked.refl (s : State) : s.Walked s := State.walked_of_eq

theorem State.moveClock_walked (next : DepotClock) (s : State) : s.Walked (s.moveClock next) :=
  ⟨by simp, by simp, s.moveClock_told next rfl, s.moveClock_asked next, State.moveClock_ok next, s.moveClock_causes next,
    State.moveClock_viewsTold next⟩

theorem State.offerAnchor_walked (time : Nat) (s : State) : s.Walked (s.offerAnchor time) :=
  ⟨by simp, by simp, s.offerAnchor_told time rfl, s.offerAnchor_asked time, State.offerAnchor_ok time, s.offerAnchor_causes time,
    State.offerAnchor_viewsTold time⟩

theorem State.offerPeerTime_walked (time : Nat) (s : State) : s.Walked (s.offerPeerTime time) :=
  ⟨by simp, by simp, s.offerPeerTime_told time rfl, s.offerPeerTime_asked time, State.offerPeerTime_ok time, s.offerPeerTime_causes time,
    State.offerPeerTime_viewsTold time⟩

theorem State.judgePlan_walked (plan : Plan) (s : State) : s.Walked (s.judgePlan plan) :=
  ⟨by simp, by simp, s.judgePlan_told plan rfl, s.judgePlan_asked plan, State.judgePlan_ok plan, s.judgePlan_causes plan,
    State.judgePlan_viewsTold plan⟩

theorem State.takeCancel_walked (tag : VanTag) (serial : Nat) (s : State) : s.Walked (s.takeCancel tag serial) :=
  ⟨by simp, by simp, s.takeCancel_told tag serial rfl, s.takeCancel_asked tag serial, State.takeCancel_ok tag serial,
    s.takeCancel_causes tag serial, State.takeCancel_viewsTold tag serial⟩

theorem State.countPulse_walked (s : State) : s.Walked s.countPulse :=
  ⟨by simp, by simp, s.countPulse_told rfl, s.countPulse_asked, State.countPulse_ok, s.countPulse_causes, State.countPulse_viewsTold⟩

/-- The default plan is adopted in AWAITING, with none held (R99). -/
theorem State.adoptDefault_walked (hawaiting : s.pw.state = .awaiting) (hnone : s.pw.held = none) : s.Walked s.adoptDefault :=
  ⟨by simp, by simp, s.adoptDefault_told rfl, s.adoptDefault_asked, fun hok => State.adoptDefault_ok hok hawaiting hnone,
    s.adoptDefault_causes, fun _ => s.adoptDefault_viewsTold⟩

theorem State.takeStatus_walked (soc : Nat) (temperature : Int) (s : State) : s.Walked (s.takeStatus soc temperature) :=
  ⟨by simp, by simp, s.takeStatus_told soc temperature rfl, s.takeStatus_asked soc temperature, State.takeStatus_ok soc temperature,
    s.takeStatus_causes soc temperature, State.takeStatus_viewsTold soc temperature⟩

theorem State.heaterRefused_walked (heaters : Heaters) (s : State) : s.Walked (s.heaterRefused heaters) :=
  ⟨by simp, by simp, s.heaterRefused_told heaters rfl, s.heaterRefused_asked heaters, State.heaterRefused_ok heaters,
    s.heaterRefused_causes heaters, State.heaterRefused_viewsTold heaters⟩

/-- A gate report is made where the programme has a current step (R71). -/
theorem State.expiryGate_walked (s u : State) (hpw : u.pw = s.pw) : u.Walked (u.expiryGate s.currentLookup) := by
  unfold State.currentLookup
  split
  · next p st hcurrent =>
      have hwalking : u.pw.state.walking = true := hpw ▸ Walker.current_walking hcurrent
      exact ⟨by simp, by simp, u.gateReport_told _ rfl, u.gateReport_asked _, fun hok => State.gateReport_ok _ hok hwalking,
        u.gateReport_causes _, fun _ => u.setHolds_viewsTold _⟩
  · exact .refl u

/-! ## Commands made of such operations -/

/-- The command is one operation of the walker's own, with the requests begun at its end where it can place one and none placed
where it cannot (R126, log 10). -/
def State.WalksTo (s t : State) : Prop := ∃ u, s.Walked u ∧ (t = u ∧ u.pl = s.pl ∨ t = u.settleLink)

theorem State.Walked.walksTo (h : s.Walked t) (hpl : t.pl = s.pl := by simp) : s.WalksTo t := ⟨t, h, .inl ⟨rfl, hpl⟩⟩

theorem State.Walked.settled (h : s.Walked t) : s.WalksTo t.settleLink := ⟨t, h, .inr rfl⟩

/-- An accepted frame is counted and, in ACTIVE, handed to the block that owns its kind (R14). -/
theorem State.frame_walksTo {kind : Nat} {check : Byte} {handed : State} (h : (s.acceptFrame check).Walked handed) :
    s.WalksTo (if s.accepts kind check then if s.active then handed.settleLink else s.acceptFrame check else s) := by
  have hcounted : s.Walked (s.acceptFrame check) := State.walked_of_eq
  split
  · split
    · exact (hcounted.trans h).settled
    · exact hcounted.walksTo
  · exact (State.Walked.refl s).walksTo

/-- The commands of the supply, the image, a site frame, the claim period, the plug, the link, the contactor and the meter. -/
def actsElsewhere : Instr → Bool
  | .powerUp _ | .brownOut _ | .imageReadComplete _ _ | .siteReceived _ | .claimPeriodExpiry
  | .plugContactChange _ | .plugClosed | .plugOpen | .linkResetResult _ _ | .resetRetryWaitExpiry | .identReply _ | .statusReply _
  | .heaterReply _ | .busyRepollWaitExpiry | .servicePauseEnd | .recoveryTimerExpiry | .pollTimerExpiry
  | .senseReadsClosed | .senseReadsOpen | .closeSenseTimerExpiry | .openSenseTimerExpiry | .retryWaitExpiry | .drawWaitExpiry
  | .drawUpdate _ | .meterLost => true
  | _ => false

theorem exec_walksTo {c : Instr} (hc : actsElsewhere c = false) (h : exec c s = .next t) : s.WalksTo t := by
  cases c
  case powerUp | brownOut | imageReadComplete | siteReceived | claimPeriodExpiry | plugContactChange | plugClosed | plugOpen
      | linkResetResult | resetRetryWaitExpiry | identReply | statusReply | heaterReply | busyRepollWaitExpiry
      | servicePauseEnd | recoveryTimerExpiry | pollTimerExpiry | senseReadsClosed | senseReadsOpen | closeSenseTimerExpiry
      | openSenseTimerExpiry | retryWaitExpiry | drawWaitExpiry | drawUpdate | meterLost =>
    simp [actsElsewhere] at hc
  case claimReceived =>
    cases h
    have hview : ∀ claim : RxClaim, ∀ u : State, u.Walked (u.viewClaim claim) := fun claim u => State.walked_of_eq
    exact State.frame_walksTo ((hview _ _).trans (State.offerPeerTime_walked _ _))
  case planReceived =>
    cases h
    exact State.frame_walksTo ((State.offerAnchor_walked _ _).trans (State.judgePlan_walked _ _))
  case cancelReceived =>
    cases h
    exact State.frame_walksTo (State.takeCancel_walked _ _ _)
  case oscillatorSecond =>
    cases h
    split
    · exact (s.moveClock_walked _).settled
    · exact (State.Walked.refl s).walksTo
  case energyPulse =>
    cases h
    exact s.countPulse_walked.settled
  case defaultPlanTimerExpiry =>
    cases h
    split
    · next hdue =>
        simp only [Bool.and_eq_true, decide_eq_true_eq, Option.isNone_iff_eq_none] at hdue
        obtain ⟨⟨-, hawaiting⟩, hnone⟩ := hdue
        exact (State.adoptDefault_walked hawaiting hnone).settled
    · exact (State.Walked.refl s).walksTo
  all_goals
    cases h
    (repeat' split) <;> exact State.Walked.walksTo State.walked_of_eq

end
end Sys2Proof.Machine
end

section
/-! PROOFS. The contactor's invariant (spec section 8.4): an operation judges the contactor anew wherever it changes what R135 reads, and a
judgement brings a contactor in order into CLOSING or CLOSED only while wanted (R135 to R139). -/

namespace Sys2Proof.Machine

section
variable {s t u : State} {ps : PowerStage} {active : Bool}

/-! ## Operations that keep the contactor in order -/

/-- From `s` to `t` the contactor stays in order. -/
def State.KeepsContactor (s t : State) : Prop :=
  t.active = s.active ∧ (s.ps.contactorOk s.active → t.ps.contactorOk s.active)

theorem State.KeepsContactor.refl (s : State) : s.KeepsContactor s := ⟨rfl, id⟩

theorem State.KeepsContactor.trans (h : s.KeepsContactor t) (k : t.KeepsContactor u) : s.KeepsContactor u := by
  obtain ⟨hactive, hok⟩ := h
  obtain ⟨kactive, kok⟩ := k
  exact ⟨kactive.trans hactive, fun hs => hactive ▸ kok (hactive.symm ▸ hok hs)⟩

theorem State.KeepsContactor.contactorOk (h : s.KeepsContactor t) (hs : s.ps.contactorOk s.active) : t.ps.contactorOk t.active := by
  obtain ⟨hactive, hok⟩ := h
  exact hactive.symm ▸ hok hs

theorem State.Walked.keepsContactor (h : s.Walked t) : s.KeepsContactor t := ⟨h.active, h.told.contactorOk⟩

theorem State.withPs_keepsContactor (h : s.ps.contactorOk s.active → ps.contactorOk s.active) : s.KeepsContactor (s.withPs ps) := ⟨rfl, h⟩

theorem State.withPl_keepsContactor (pl : PlugLink) (s : State) : s.KeepsContactor (s.withPl pl) := .refl s

theorem State.settleLink_keepsContactor (s : State) : s.KeepsContactor s.settleLink := .refl s

theorem State.WalksTo.keepsContactor (h : s.WalksTo t) : s.KeepsContactor t := by
  obtain ⟨u, hu, ⟨rfl, -⟩ | rfl⟩ := h
  · exact hu.keepsContactor
  · exact hu.keepsContactor

theorem State.queueReport_keepsContactor (kind : ReportKind) (tag : VanTag) (detail : Nat) (s : State) :
    s.KeepsContactor (s.queueReport kind tag detail) := (State.walked_of_eq (t := s.queueReport kind tag detail)).keepsContactor

theorem State.setHolds_keepsContactor (holds : HoldSet) (s : State) : s.KeepsContactor (s.setHolds holds) :=
  ⟨State.active_of_sl (by simp), (s.setHolds_told holds rfl).contactorOk⟩

theorem State.handAccept_keepsContactor (v : Nat) (s : State) : s.KeepsContactor (s.handAccept v) :=
  (s.withPl_keepsContactor _).trans (State.withPs_keepsContactor PowerStage.takeAcceptLimit_contactorOk)

theorem PowerStage.core_of_ok (h : ps.contactorOk active) : ps.contactorCore := (PowerStage.contactorOk_iff.mp h).1

/-- A change of what R135 reads is judged at once. -/
theorem State.linkView_keepsContactor (plugDetected linkWorking : Bool) (s : State) :
    s.KeepsContactor (s.linkView plugDetected linkWorking) :=
  State.withPs_keepsContactor fun hok => PowerStage.judge_ok (show PowerStage.contactorCore _ from PowerStage.core_of_ok (ps := s.ps) hok)

/-! ## The fault latches and the plug (R136 to R139) -/

/-- A contactor off its latches, in OPEN with the retry wait running (R136). -/
theorem PowerStage.retry_contactorOk (hdraw : ps.drawWait.isRunning = false) (hclose : ps.closeLatch = false) (hweld : ps.weldLatch = false)
    (hshed : ps.shedHold ≤ 3) :
    ({ ps with setpoint := 0, drive := false, senseTimer := .stopped, closeMisses := 1, retryWait := .running 5000,
               contactor := .isOpen } : PowerStage).contactorOk active := by
  rw [PowerStage.contactorOk_iff]
  simp [PowerStage.contactorCore, Contactor.driven, Contactor.sensing, Contactor.engaged, hdraw, hclose, hweld, hshed]

theorem PowerStage.closeFault_contactorOk (hdraw : ps.drawWait.isRunning = false) (hweld : ps.weldLatch = false)
    (hmisses : ps.closeMisses ≤ 1) (hshed : ps.shedHold ≤ 3) :
    ({ ps with setpoint := 0, drive := false, senseTimer := .stopped, closeLatch := true, contactor := .closeFault } : PowerStage).contactorOk
      active := by
  rw [PowerStage.contactorOk_iff]
  simp [PowerStage.contactorCore, Contactor.driven, Contactor.sensing, Contactor.engaged, hdraw, hweld, hmisses, hshed]

theorem PowerStage.weldFault_contactorOk (hdraw : ps.drawWait.isRunning = false) (hclose : ps.closeLatch = false)
    (hmisses : ps.closeMisses ≤ 1) (hshed : ps.shedHold ≤ 3) :
    ({ ps with setpoint := 0, drive := false, senseTimer := .stopped, weldLatch := true, contactor := .weldFault } : PowerStage).contactorOk
      active := by
  rw [PowerStage.contactorOk_iff]
  simp [PowerStage.contactorCore, Contactor.driven, Contactor.sensing, Contactor.engaged, hdraw, hclose, hmisses, hshed]

/-- A failed close leaves the contactor in order, also where the sense has just read open in CLOSED (R136, R137). -/
theorem State.failedClose_contactorOk (hdraw : s.ps.drawWait.isRunning = false) (hclose : s.ps.closeLatch = false)
    (hweld : s.ps.weldLatch = false) (hmisses : s.ps.closeMisses ≤ 1) (hshed : s.ps.shedHold ≤ 3) :
    s.failedClose.ps.contactorOk s.failedClose.active := by
  unfold State.failedClose
  split
  · exact PowerStage.retry_contactorOk hdraw hclose hweld hshed
  · exact ((State.setHolds_keepsContactor _ _).trans (State.queueReport_keepsContactor _ _ _ _)).contactorOk
      (PowerStage.closeFault_contactorOk hdraw hweld hmisses hshed)

/-- Where the contactor is in none of the draw phase and the fault states, no draw wait runs and no latch is set. -/
theorem PowerStage.clear_of_core (h : ps.contactorCore) (hdraw : ps.contactor ≠ .opening .draw) (hclose : ps.contactor ≠ .closeFault)
    (hweld : ps.contactor ≠ .weldFault) : ps.drawWait.isRunning = false ∧ ps.closeLatch = false ∧ ps.weldLatch = false
      ∧ ps.closeMisses ≤ 1 ∧ ps.shedHold ≤ 3 := by
  obtain ⟨-, -, kdraw, kclose, kweld, -, -, -, kmisses, kshed⟩ := h
  exact ⟨by simpa [hdraw] using kdraw, by simpa [hclose] using kclose, by simpa [hweld] using kweld, kmisses, kshed⟩

theorem PowerStage.wanted_of_unplugged (h : ps.plugDetected = false) : ps.wanted active = false := by simp [PowerStage.wanted, h]

/-- A plug open takes CLOSE-FAULT to OPEN and stops the retry wait, which a contactor that is not wanted may do (R139). -/
theorem PowerStage.clearCloseFault_contactorOk (hok : ps.contactorOk active) (hplug : ps.plugDetected = false) :
    ps.clearCloseFault.contactorOk active := by
  have hunwanted : ps.clearCloseFault.wanted active = false := PowerStage.wanted_of_unplugged hplug
  obtain ⟨⟨kdrive, ksense, kdraw, kclose, kweld, kclosing, kclosed, kphase, -, kshed⟩, kengaged, -⟩ := PowerStage.contactorOk_iff.mp hok
  rw [PowerStage.wanted_of_unplugged hplug] at kengaged
  rw [PowerStage.contactorOk_iff, hunwanted]
  by_cases hfault : ps.contactor = .closeFault
  · simp_all [PowerStage.clearCloseFault, PowerStage.contactorCore, Contactor.driven, Contactor.sensing, Contactor.engaged]
  · simp_all [PowerStage.clearCloseFault, PowerStage.contactorCore]

theorem State.powerPlugRemoved_keepsContactor (s : State) : s.KeepsContactor s.powerPlugRemoved := by
  have hcleared : s.KeepsContactor ((s.linkView false false).withPs (s.linkView false false).ps.clearCloseFault) :=
    (s.linkView_keepsContactor false false).trans
      (State.withPs_keepsContactor fun hok => PowerStage.clearCloseFault_contactorOk hok PowerStage.judge_plugDetected)
  unfold State.powerPlugRemoved
  dsimp only
  split
  · exact hcleared
  · exact hcleared.trans (State.setHolds_keepsContactor _ _)

/-! ## The plug link's replies (R118 to R124) -/

theorem State.keepsContactor_of_told (hconfig : t.sl = s.sl) (h : PowerStage.Told s.active s.ps t.ps) : s.KeepsContactor t :=
  ⟨State.active_of_sl hconfig, h.contactorOk⟩

theorem State.enterLost_keepsContactor (s : State) : s.KeepsContactor s.enterLost := by
  have hdropped : s.KeepsContactor s.linkDropped := (s.withPl_keepsContactor _).trans (State.handAccept_keepsContactor 0 _)
  have hreport : s.linkDropped.KeepsContactor s.linkDropped.linkLostReport :=
    State.keepsContactor_of_told (by simp) (s.linkDropped.linkLostReport_told rfl)
  rw [State.enterLost_eq]
  exact ((hdropped.trans hreport).trans (State.linkView_keepsContactor _ _ _)).trans (State.queueReport_keepsContactor _ _ _ _)

theorem State.countedOrLost_keepsContactor {p : Prop} [Decidable p] (counted lost : PlugLink) (s : State) :
    s.KeepsContactor (if p then s.withPl counted else (s.withPl lost).enterLost) := by
  split
  · exact s.withPl_keepsContactor counted
  · exact (s.withPl_keepsContactor lost).trans (State.enterLost_keepsContactor _)

theorem State.identValid_keepsContactor (v : VanIdentity) (s : State) : s.KeepsContactor (s.identValid v) := by
  have hvan : ∀ t : State, t.KeepsContactor (State.vanIdentified v.tag v.capacity t) := fun t =>
    State.keepsContactor_of_told (by simp) (t.vanIdentified_told v.tag v.capacity rfl)
  exact ((s.withPl_keepsContactor _).trans (hvan _)).trans (State.linkView_keepsContactor _ _ _)

theorem State.recovered_keepsContactor (v : VanIdentity) (s : State) : s.KeepsContactor (s.recovered v) := by
  have hsame : ∀ t : State, t.KeepsContactor t.sameVan := fun t => State.keepsContactor_of_told (by simp) (t.sameVan_told rfl)
  have hdifferent : ∀ t : State, t.KeepsContactor (State.differentVan v.tag v.capacity t) := fun t =>
    State.keepsContactor_of_told (by simp) (t.differentVan_told v.tag v.capacity rfl)
  unfold State.recovered
  dsimp only
  split
  · exact ((s.withPl_keepsContactor _).trans (hsame _)).trans (State.linkView_keepsContactor _ _ _)
  · exact ((s.withPl_keepsContactor _).trans (hdifferent _)).trans (State.linkView_keepsContactor _ _ _)

theorem State.statusValid_keepsContactor (st : LinkStatus) (s : State) : s.KeepsContactor (s.statusValid st) :=
  (((s.withPl_keepsContactor _).trans (State.handAccept_keepsContactor _ _)).trans
    (State.takeStatus_walked st.soc st.temperature _).keepsContactor).trans (State.withPl_keepsContactor _ _)

theorem execIdentReply_keepsContactor {r : LinkReply} (h : execIdentReply r s = .next t) : s.KeepsContactor t := by
  cases h
  split
  · split
    · split
      · exact s.withPl_keepsContactor _
      · exact s.withPl_keepsContactor _
      · split
        · exact (s.recovered_keepsContactor _).trans (State.settleLink_keepsContactor _)
        · exact (s.identValid_keepsContactor _).trans (State.settleLink_keepsContactor _)
      · split
        · exact s.withPl_keepsContactor _
        · exact s.countedOrLost_keepsContactor _ _
    · exact .refl s
  · exact .refl s

theorem execStatusReply_keepsContactor {r : LinkReply} (h : execStatusReply r s = .next t) : s.KeepsContactor t := by
  cases h
  split
  · split
    · split
      · exact s.withPl_keepsContactor _
      · exact s.withPl_keepsContactor _
      · exact (s.statusValid_keepsContactor _).trans (State.settleLink_keepsContactor _)
      · exact s.countedOrLost_keepsContactor _ _
    · exact .refl s
  · exact .refl s

theorem execHeaterReply_keepsContactor {r : LinkReply} (h : execHeaterReply r s = .next t) : s.KeepsContactor t := by
  cases h
  split
  · split
    · split
      · exact s.withPl_keepsContactor _
      · exact s.withPl_keepsContactor _
      · exact (s.withPl_keepsContactor _).trans (State.settleLink_keepsContactor _)
      · exact ((s.withPl_keepsContactor _).trans (State.heaterRefused_walked _ _).keepsContactor).trans (State.settleLink_keepsContactor _)
      · exact s.countedOrLost_keepsContactor _ _
    · exact .refl s
  · exact .refl s

/-! ## The contactor's own commands, and the meter (R136 to R143) -/

/-- The sense reading is asked of CLOSING, which reads open, and of CLOSED and the sense phase, which read closed. -/
theorem PowerStage.sense_contactorOk {closed : Bool} (hok : ps.contactorOk active) (hclosing : ps.contactor = .closing → closed = false)
    (hclosed : ps.contactor = .isClosed → closed = true) (hphase : ps.contactor = .opening .sense → closed = true) :
    ({ ps with senseClosed := closed } : PowerStage).contactorOk active := by
  obtain ⟨k1, k2, k3, k4, k5, k6, k7, -, -, -, k11, k12⟩ := hok
  exact ⟨k1, k2, k3, k4, k5, k6, k7, hclosing, hclosed, hphase, k11, k12⟩

/-- CLOSING ends in CLOSED, still wanted (R136). -/
theorem PowerStage.closed_contactorOk (hok : ps.contactorOk active) (hclosing : ps.contactor = .closing) :
    ({ ps with senseClosed := true, senseTimer := .stopped, contactor := .isClosed } : PowerStage).contactorOk active := by
  have hwanted : ps.wanted active = true := (PowerStage.contactorOk_iff.mp hok).2.1 (by simp [hclosing, Contactor.engaged])
  obtain ⟨kdrive, -, kdraw, kclose, kweld, -, -, -, kmisses, kshed⟩ := PowerStage.core_of_ok hok
  simp only [hclosing, Contactor.driven, reduceCtorEq, decide_false] at kdrive kdraw kclose kweld
  exact PowerStage.contactorOk_iff.mpr ⟨⟨kdrive, rfl, kdraw, kclose, kweld, nofun, fun _ => rfl, nofun, kmisses, kshed⟩,
    fun _ => hwanted, nofun⟩

theorem execSenseReadsClosed_keepsContactor (h : execSenseReadsClosed s = .next t) : s.KeepsContactor t := by
  cases h
  dsimp only
  split
  · next hclosing => exact State.withPs_keepsContactor fun hok => PowerStage.closed_contactorOk hok hclosing
  · next hclosing =>
      exact State.withPs_keepsContactor fun hok => PowerStage.sense_contactorOk hok (fun k => absurd k hclosing) (fun _ => rfl) (fun _ => rfl)

theorem execSenseReadsOpen_keepsContactor (h : execSenseReadsOpen s = .next t) : s.KeepsContactor t := by
  cases h
  dsimp only
  split
  · next hclosed =>
      have hactive : (State.failedClose (s.withPs { s.ps with senseClosed := false })).active = s.active := State.active_of_sl (by simp)
      refine ⟨hactive, fun hok => ?_⟩
      obtain ⟨hdraw, hclose, hweld, hmisses, hshed⟩ :=
        PowerStage.clear_of_core (PowerStage.core_of_ok hok) (by simp [hclosed]) (by simp [hclosed]) (by simp [hclosed])
      have hfailed := State.failedClose_contactorOk (s := s.withPs { s.ps with senseClosed := false }) hdraw hclose hweld hmisses hshed
      rwa [hactive] at hfailed
  · next hopening =>
      refine State.withPs_keepsContactor fun hok => ?_
      obtain ⟨hdraw, hclose, hweld, hmisses, hshed⟩ :=
        PowerStage.clear_of_core (PowerStage.core_of_ok hok) (by simp [hopening]) (by simp [hopening]) (by simp [hopening])
      obtain ⟨hdrive, -⟩ := PowerStage.core_of_ok hok
      rw [hopening] at hdrive
      exact PowerStage.enterOpen_ok hdraw hclose hweld hmisses hshed hdrive
  · next hclosed hopening =>
      exact State.withPs_keepsContactor fun hok =>
        PowerStage.sense_contactorOk hok (fun _ => rfl) (fun k => absurd k hclosed) (fun k => absurd k hopening)

theorem execCloseSenseTimerExpiry_keepsContactor (h : execCloseSenseTimerExpiry s = .next t) : s.KeepsContactor t := by
  cases h
  split
  · next hdue =>
      simp only [Bool.and_eq_true, decide_eq_true_eq] at hdue
      have hactive : s.failedClose.active = s.active := State.active_of_sl (by simp)
      refine ⟨hactive, fun hok => ?_⟩
      obtain ⟨hdraw, hclose, hweld, hmisses, hshed⟩ :=
        PowerStage.clear_of_core (PowerStage.core_of_ok hok) (by simp [hdue.2]) (by simp [hdue.2]) (by simp [hdue.2])
      have hfailed := State.failedClose_contactorOk hdraw hclose hweld hmisses hshed
      rwa [hactive] at hfailed
  · exact .refl s

theorem execOpenSenseTimerExpiry_keepsContactor (h : execOpenSenseTimerExpiry s = .next t) : s.KeepsContactor t := by
  cases h
  split
  · next hdue =>
      simp only [Bool.and_eq_true, decide_eq_true_eq] at hdue
      refine State.KeepsContactor.trans (State.withPs_keepsContactor fun hok => ?_)
        ((State.setHolds_keepsContactor _ _).trans (State.queueReport_keepsContactor _ _ _ _))
      obtain ⟨hdraw, hclose, -, hmisses, hshed⟩ :=
        PowerStage.clear_of_core (PowerStage.core_of_ok hok) (by simp [hdue.2]) (by simp [hdue.2]) (by simp [hdue.2])
      exact PowerStage.weldFault_contactorOk hdraw hclose hmisses hshed
  · exact .refl s

theorem execRetryWaitExpiry_keepsContactor (h : execRetryWaitExpiry s = .next t) : s.KeepsContactor t := by
  cases h
  split
  · exact State.withPs_keepsContactor fun hok =>
      PowerStage.judge_ok (show PowerStage.contactorCore _ from PowerStage.core_of_ok (ps := s.ps) hok)
  · exact .refl s

/-- The draw phase ends in the sense phase, or in OPEN where the sense reads open (R138). -/
theorem State.endOfDraw_keepsContactor (hdraw : s.ps.contactor = .opening .draw) :
    s.KeepsContactor (s.withPs (s.ps.beginSensePhase s.active)) := by
  refine State.withPs_keepsContactor fun hok => ?_
  obtain ⟨-, -, -, hclose, hweld, -, -, -, hmisses, hshed⟩ := PowerStage.core_of_ok hok
  exact PowerStage.beginSensePhase_ok (by simpa [hdraw] using hclose) (by simpa [hdraw] using hweld) hmisses hshed

theorem execDrawWaitExpiry_keepsContactor (h : execDrawWaitExpiry s = .next t) : s.KeepsContactor t := by
  cases h
  split
  · next hdue =>
      simp only [Bool.and_eq_true, decide_eq_true_eq] at hdue
      exact State.endOfDraw_keepsContactor hdue.2
  · exact .refl s

theorem State.endDrawPhase_keepsContactor (power : Nat) (s : State) : s.KeepsContactor (s.endDrawPhase power) := by
  unfold State.endDrawPhase
  split
  · next hdraw => exact State.endOfDraw_keepsContactor hdraw.1
  · exact .refl s

theorem execDrawUpdate_keepsContactor {power : Nat} (h : execDrawUpdate power s = .next t) : s.KeepsContactor t := by
  have hdraw : s.KeepsContactor (s.withPs (s.ps.takeDraw power)) := State.withPs_keepsContactor id
  cases h
  dsimp only
  split
  · refine (State.KeepsContactor.trans ?_ (State.endDrawPhase_keepsContactor power _)).trans (State.settleLink_keepsContactor _)
    split
    · exact hdraw.trans (State.setHolds_keepsContactor _ _)
    · exact hdraw
  · exact .refl s

theorem execMeterLost_keepsContactor (h : execMeterLost s = .next t) : s.KeepsContactor t := by
  have hmeter : s.KeepsContactor (s.withPs { s.ps with meterLost := true, setpoint := 0, updateAge := some 3 }) :=
    State.withPs_keepsContactor id
  cases h
  dsimp only
  split
  · exact (hmeter.trans (State.setHolds_keepsContactor _ _)).trans (State.queueReport_keepsContactor _ _ _ _)
  · exact .refl s

/-! ## Site frames, the claim period and the plug (R111, R112, R130, R133) -/

theorem execSiteReceived_keepsContactor {check : Byte} (h : execSiteReceived check s = .next t) : s.KeepsContactor t := by
  have hcounted : s.KeepsContactor (s.acceptFrame check) := .refl s
  have hhand : ∀ (f : RxSite) (u : State), u.KeepsContactor (u.handSite f) := fun f u => by
    unfold State.handSite
    dsimp only
    refine .trans ?_ (State.offerAnchor_walked _ _).keepsContactor
    split
    · exact State.withPs_keepsContactor (s := u.withSc (u.sc.takeSite f.building)) PowerStage.shed_contactorOk
    · exact .refl u
  cases h
  split
  · dsimp only
    split
    · exact (hcounted.trans (hhand _ _)).trans (State.settleLink_keepsContactor _)
    · exact hcounted
  · exact .refl s

theorem execClaimPeriodExpiry_keepsContactor (h : execClaimPeriodExpiry s = .next t) : s.KeepsContactor t := by
  cases h
  split
  · exact ⟨State.active_of_sl (by simp), fun hok => by simpa using s.claimPeriod_told.contactorOk (PowerStage.takePosting_contactorOk hok)⟩
  · exact .refl s

theorem execPlugClosed_keepsContactor (h : execPlugClosed s = .next t) : s.KeepsContactor t := by
  cases h
  split
  · refine (s.withPl_keepsContactor _).trans (State.withPs_keepsContactor fun hok => ?_)
    exact PowerStage.judge_ok (show PowerStage.contactorCore _ from PowerStage.core_of_ok (ps := s.ps) hok)
  · exact .refl s

theorem execPlugOpen_keepsContactor (h : execPlugOpen s = .next t) : s.KeepsContactor t := by
  have hwalker : ∀ u : State, u.KeepsContactor u.walkerPlugRemoved := fun u =>
    State.keepsContactor_of_told (by simp) (u.walkerPlugRemoved_told rfl)
  cases h
  split
  · exact (((s.withPl_keepsContactor _).trans (State.handAccept_keepsContactor _ _)).trans (hwalker _)).trans
      (State.powerPlugRemoved_keepsContactor _)
  · exact .refl s

theorem execLinkResetResult_keepsContactor {fellAt : Option Nat} {highAgain : Bool}
    (h : execLinkResetResult fellAt highAgain s = .next t) : s.KeepsContactor t := by
  cases h
  split
  · split
    · split
      · exact s.withPl_keepsContactor _
      · exact s.countedOrLost_keepsContactor _ _
    · (repeat' split) <;> exact .refl s
  · exact .refl s

/-! ## The supply events and the image (R140, R149) -/

theorem powerOn_contactorOk (brownOut senseClosed : Bool) (waiting : List Instr) :
    (powerOn brownOut senseClosed waiting).ps.contactorOk (powerOn brownOut senseClosed waiting).active := by
  cases senseClosed <;>
    simp [PowerStage.contactorOk_iff, powerOn, PowerStage.reset, PowerStage.weldCheck, PowerStage.contactorCore, Contactor.driven,
      Contactor.sensing, Contactor.engaged, PowerStage.wanted]

theorem State.enterActive_active (c : Settings) (contactClosed : Bool) (s : State) : (s.enterActive c contactClosed).active = true := by
  obtain ⟨hsl, -, -⟩ := State.enterActive_blocks c contactClosed s
  simp [State.active, hsl, StartUp.afterRead]

theorem execImageReadComplete_contactorOk {bits : List Bool} {contactClosed : Bool} (hs : s.ps.contactorOk s.active)
    (h : execImageReadComplete bits contactClosed s = .next t) : t.ps.contactorOk t.active := by
  cases h
  split
  · next hread =>
      unfold State.judgeImage
      split
      · rw [State.enterActive_active, State.enterActive_ps]
        exact PowerStage.judge_ok (show PowerStage.contactorCore _ from PowerStage.core_of_ok (ps := s.ps) hs)
      · have hasleep : s.active = false := by
          have hloading : s.sl.config = .loading := of_decide_eq_true hread.1
          simp [State.active, hloading]
        rw [hasleep] at hs
        exact hs
  · exact hs

/-! ## Every command -/

theorem exec_contactorOk {c : Instr} (hs : s.ps.contactorOk s.active) (h : exec c s = .next t) : t.ps.contactorOk t.active := by
  cases c
  case powerUp => cases h; exact powerOn_contactorOk _ _ _
  case brownOut => cases h; exact powerOn_contactorOk _ _ _
  case imageReadComplete => exact execImageReadComplete_contactorOk hs h
  case siteReceived => exact (execSiteReceived_keepsContactor h).contactorOk hs
  case claimPeriodExpiry => exact (execClaimPeriodExpiry_keepsContactor h).contactorOk hs
  case plugClosed => exact (execPlugClosed_keepsContactor h).contactorOk hs
  case plugOpen => exact (execPlugOpen_keepsContactor h).contactorOk hs
  case linkResetResult => exact (execLinkResetResult_keepsContactor h).contactorOk hs
  case identReply => exact (execIdentReply_keepsContactor h).contactorOk hs
  case statusReply => exact (execStatusReply_keepsContactor h).contactorOk hs
  case heaterReply => exact (execHeaterReply_keepsContactor h).contactorOk hs
  case senseReadsClosed => exact (execSenseReadsClosed_keepsContactor h).contactorOk hs
  case senseReadsOpen => exact (execSenseReadsOpen_keepsContactor h).contactorOk hs
  case closeSenseTimerExpiry => exact (execCloseSenseTimerExpiry_keepsContactor h).contactorOk hs
  case openSenseTimerExpiry => exact (execOpenSenseTimerExpiry_keepsContactor h).contactorOk hs
  case retryWaitExpiry => exact (execRetryWaitExpiry_keepsContactor h).contactorOk hs
  case drawWaitExpiry => exact (execDrawWaitExpiry_keepsContactor h).contactorOk hs
  case drawUpdate => exact (execDrawUpdate_keepsContactor h).contactorOk hs
  case meterLost => exact (execMeterLost_keepsContactor h).contactorOk hs
  case plugContactChange | resetRetryWaitExpiry | busyRepollWaitExpiry | servicePauseEnd | recoveryTimerExpiry | pollTimerExpiry =>
    cases h
    (repeat' split) <;> exact hs
  all_goals exact (exec_walksTo rfl h).keepsContactor.contactorOk hs

end

/-- Settles O55, command by command. -/
theorem contactorInvariantKept : Obligations.ContactorInvariantKept :=
  step_keeps (P := fun s => s.ps.contactorOk s.active) (fun _ _ hs => hs) fun _ _ _ hs h => exec_contactorOk hs h

end Sys2Proof.Machine
end

section
/-! PROOFS. The Programme Walker's invariant (spec sections 6.2 to 6.4): what the other blocks report leaves the walker in order (R85 to
R105). -/

namespace Sys2Proof.Machine

section
variable {s t : State}

theorem State.WalksTo.walkerOk (h : s.WalksTo t) (hs : s.pw.ok) : t.pw.ok := by
  obtain ⟨u, hu, ⟨rfl, -⟩ | rfl⟩ := h
  · exact hu.ok hs
  · simpa using hu.ok hs

/-! ## The link and the plug (R91, R92) -/

theorem State.enterLost_walkerOk (hs : s.pw.ok) : s.enterLost.pw.ok := by
  rw [State.enterLost_pw]
  exact State.linkLostReport_ok (by rwa [State.linkDropped_pw])

theorem State.countedOrLost_walkerOk {p : Prop} [Decidable p] (counted lost : PlugLink) (hs : s.pw.ok) :
    (if p then s.withPl counted else (s.withPl lost).enterLost).pw.ok := by
  split
  · exact hs
  · exact State.enterLost_walkerOk (s := s.withPl lost) hs

theorem State.identValid_walkerOk (v : VanIdentity) (hs : s.pw.ok) : (s.identValid v).pw.ok := by
  have hvan := State.vanIdentified_ok (s := s.withPl (s.pl.identified v)) v.tag v.capacity hs
  simpa [State.identValid] using hvan

theorem State.recovered_walkerOk (v : VanIdentity) (hs : s.pw.ok) : (s.recovered v).pw.ok := by
  unfold State.recovered
  dsimp only
  split
  · rw [State.linkView_pw]
    exact State.sameVan_ok (s := s.withPl _) hs
  · rw [State.linkView_pw]
    exact State.differentVan_ok (s := s.withPl _) v.tag v.capacity hs

theorem State.statusValid_walkerOk (st : LinkStatus) (hs : s.pw.ok) : (s.statusValid st).pw.ok := by
  unfold State.statusValid
  dsimp only
  rw [State.withPl_pw]
  exact State.takeStatus_ok _ _ (by simpa using hs)

theorem execLinkResetResult_walkerOk {fellAt : Option Nat} {highAgain : Bool} (hs : s.pw.ok)
    (h : execLinkResetResult fellAt highAgain s = .next t) : t.pw.ok := by
  cases h
  split
  · split
    · split
      · exact hs
      · exact State.countedOrLost_walkerOk _ _ hs
    · (repeat' split) <;> exact hs
  · exact hs

theorem execIdentReply_walkerOk {r : LinkReply} (hs : s.pw.ok) (h : execIdentReply r s = .next t) : t.pw.ok := by
  cases h
  split
  · split
    · split
      · exact hs
      · exact hs
      · rw [State.settleLink_pw]
        split
        · exact State.recovered_walkerOk _ hs
        · exact State.identValid_walkerOk _ hs
      · split
        · exact hs
        · exact State.countedOrLost_walkerOk _ _ hs
    · exact hs
  · exact hs

theorem execStatusReply_walkerOk {r : LinkReply} (hs : s.pw.ok) (h : execStatusReply r s = .next t) : t.pw.ok := by
  cases h
  split
  · split
    · split
      · exact hs
      · exact hs
      · rw [State.settleLink_pw]
        exact State.statusValid_walkerOk _ hs
      · exact State.countedOrLost_walkerOk _ _ hs
    · exact hs
  · exact hs

theorem execHeaterReply_walkerOk {r : LinkReply} (hs : s.pw.ok) (h : execHeaterReply r s = .next t) : t.pw.ok := by
  cases h
  split
  · split
    · split
      · exact hs
      · exact hs
      · exact hs
      · rw [State.settleLink_pw]
        exact State.heaterRefused_ok (s := s.withPl s.pl.complete) _ hs
      · exact State.countedOrLost_walkerOk _ _ hs
    · exact hs
  · exact hs

/-- A change in the causes other than the policy gate (R88). -/
theorem State.setHolds_walkerOk {holds : HoldSet} (hs : s.pw.ok) (hgate : holds.gateClosed = s.pw.holds.gateClosed) :
    (s.setHolds holds).pw.ok := State.setHolds_ok holds hs (.inr hgate)

theorem State.powerPlugRemoved_walkerOk (hs : s.pw.ok) : s.powerPlugRemoved.pw.ok := by
  unfold State.powerPlugRemoved
  dsimp only
  split
  · simpa using hs
  · exact State.setHolds_walkerOk (by simpa using hs) rfl

/-! ## The contactor and the meter (R139, R143) -/

theorem State.failedClose_walkerOk (hs : s.pw.ok) : s.failedClose.pw.ok := by
  unfold State.failedClose State.setCloseLatch
  split
  · exact hs
  · rw [State.queueReport_pw]
    exact State.setHolds_walkerOk (by simpa using hs) rfl

theorem State.setWeldLatch_walkerOk (hs : s.pw.ok) : s.setWeldLatch.pw.ok := by
  unfold State.setWeldLatch
  rw [State.queueReport_pw]
  exact State.setHolds_walkerOk (by simpa using hs) rfl

theorem execSenseReadsOpen_walkerOk (hs : s.pw.ok) (h : execSenseReadsOpen s = .next t) : t.pw.ok := by
  cases h
  dsimp only
  split
  · exact State.failedClose_walkerOk (s := s.withPs _) hs
  · exact hs
  · exact hs

theorem execDrawUpdate_walkerOk {power : Nat} (hs : s.pw.ok) (h : execDrawUpdate power s = .next t) : t.pw.ok := by
  cases h
  dsimp only
  split
  · rw [State.settleLink_pw, State.endDrawPhase_pw]
    split
    · exact State.setHolds_walkerOk (by simpa using hs) rfl
    · exact hs
  · exact hs

theorem execMeterLost_walkerOk (hs : s.pw.ok) (h : execMeterLost s = .next t) : t.pw.ok := by
  cases h
  dsimp only
  split
  · rw [State.queueReport_pw]
    exact State.setHolds_walkerOk (by simpa using hs) rfl
  · exact hs

/-! ## Site frames, the claim period, the supply events and the image -/

theorem execSiteReceived_walkerOk {check : Byte} (hs : s.pw.ok) (h : execSiteReceived check s = .next t) : t.pw.ok := by
  have hhand : ∀ (f : RxSite) (u : State), u.pw.ok → (u.handSite f).pw.ok := fun f u hu => by
    refine State.offerAnchor_ok f.time ?_
    split <;> exact hu
  cases h
  split
  · dsimp only
    split
    · rw [State.settleLink_pw]
      exact hhand _ (s.acceptFrame check) hs
    · exact hs
  · exact hs

theorem State.claimPeriod_pw (s : State) : s.claimPeriod.pw = s.expiryPosted.pw := by simp [State.claimPeriod]

theorem execClaimPeriodExpiry_walkerOk (hs : s.pw.ok) (h : execClaimPeriodExpiry s = .next t) : t.pw.ok := by
  cases h
  split
  · rw [State.settleLink_pw, State.claimPeriod_pw]
    exact (State.expiryGate_walked s ((s.withPv s.pv.clearUnlisted).withPs (s.ps.takePosting s.cfg s.expiryShare)) rfl).ok hs
  · exact hs

theorem powerOn_walkerOk (brownOut senseClosed : Bool) (waiting : List Instr) : (powerOn brownOut senseClosed waiting).pw.ok :=
  Walker.empty_ok ⟨rfl, rfl, rfl, rfl, rfl, rfl⟩ rfl rfl rfl

theorem State.judgeImage_pw (image : List Byte) (contactClosed : Bool) (s : State) : (s.judgeImage image contactClosed).pw = s.pw := by
  unfold State.judgeImage
  split
  · rw [State.enterActive_eq]
    split
    · rw [State.queueReport_pw]; rfl
    · rfl
  · rfl

/-! ## Every command -/

theorem exec_walkerOk {c : Instr} (hs : s.pw.ok) (h : exec c s = .next t) : t.pw.ok := by
  cases c
  case powerUp => cases h; exact powerOn_walkerOk _ _ _
  case brownOut => cases h; exact powerOn_walkerOk _ _ _
  case imageReadComplete =>
    cases h
    split
    · rwa [State.judgeImage_pw]
    · exact hs
  case siteReceived => exact execSiteReceived_walkerOk hs h
  case claimPeriodExpiry => exact execClaimPeriodExpiry_walkerOk hs h
  case plugOpen =>
    cases h
    split
    · exact State.powerPlugRemoved_walkerOk (State.walkerPlugRemoved_ok _)
    · exact hs
  case linkResetResult => exact execLinkResetResult_walkerOk hs h
  case identReply => exact execIdentReply_walkerOk hs h
  case statusReply => exact execStatusReply_walkerOk hs h
  case heaterReply => exact execHeaterReply_walkerOk hs h
  case senseReadsOpen => exact execSenseReadsOpen_walkerOk hs h
  case senseReadsClosed =>
    cases h
    dsimp only
    split <;> exact hs
  case closeSenseTimerExpiry =>
    cases h
    split
    · exact State.failedClose_walkerOk hs
    · exact hs
  case openSenseTimerExpiry =>
    cases h
    split
    · exact State.setWeldLatch_walkerOk hs
    · exact hs
  case drawUpdate => exact execDrawUpdate_walkerOk hs h
  case meterLost => exact execMeterLost_walkerOk hs h
  case plugContactChange | plugClosed | resetRetryWaitExpiry | busyRepollWaitExpiry | servicePauseEnd | recoveryTimerExpiry
      | pollTimerExpiry | retryWaitExpiry | drawWaitExpiry =>
    cases h
    (repeat' split) <;> exact hs
  all_goals exact (exec_walksTo rfl h).walkerOk hs

end

/-- Settles O56, command by command. -/
theorem walkerInvariantKept : Obligations.WalkerInvariantKept :=
  step_keeps (P := fun s => s.pw.ok) (fun _ _ hs => hs) fun _ _ _ hs h => exec_walkerOk hs h

end Sys2Proof.Machine
end

section
/-! PROOFS. The Plug Link's invariant (spec sections 7.2 to 7.7): each change of the link leaves its state, exchange, requests, counts and timers in
agreement (R111 to R127). -/

namespace Sys2Proof.Machine

section
variable {pl : PlugLink} {e : Exchange}

/-! ## What each link state stands for -/

@[simp] theorem exchangeFits_unplugged (x : Option Exchange) : exchangeFits .unplugged x ↔ x = none := .rfl
@[simp] theorem exchangeFits_resetting (x : Option Exchange) : exchangeFits .resetting x ↔ x = none := .rfl
@[simp] theorem exchangeFits_ready (x : Option Exchange) : exchangeFits .ready x ↔ x = none := .rfl
@[simp] theorem exchangeFits_identifying (x : Option Exchange) :
    exchangeFits .identifying x ↔ ∃ e, x = some e ∧ e.command = .ident := .rfl
@[simp] theorem exchangeFits_exchange (x : Option Exchange) : exchangeFits .exchange x ↔ ∃ e, x = some e ∧ e.command ≠ .ident := .rfl
@[simp] theorem exchangeFits_lost (x : Option Exchange) : exchangeFits .lost x ↔ ∀ e, x = some e → e.command = .ident := .rfl

@[simp] theorem LinkState.working_unplugged : LinkState.unplugged.working = false := rfl
@[simp] theorem LinkState.working_resetting : LinkState.resetting.working = false := rfl
@[simp] theorem LinkState.working_identifying : LinkState.identifying.working = false := rfl
@[simp] theorem LinkState.working_ready : LinkState.ready.working = true := rfl
@[simp] theorem LinkState.working_exchange : LinkState.exchange.working = true := rfl
@[simp] theorem LinkState.working_lost : LinkState.lost.working = false := rfl

/-! ## The link's own changes -/

theorem PlugLink.plugged_of_link (h : pl.linkOk) (hlink : pl.link ≠ .unplugged) : pl.plugClosed = true := by
  obtain ⟨hplug, -⟩ := h
  simpa using mt hplug.mpr hlink

theorem PlugLink.busyWait_of_idle (h : pl.linkOk) (hx : pl.exchange = none) : pl.busyWait.isRunning = false := by
  obtain ⟨-, -, -, -, -, -, -, -, -, -, -, hbusy, -⟩ := h
  simpa [hx] using hbusy

theorem PlugLink.idle_of_reset (h : pl.linkOk) (hreset : pl.resetOnLine = true) : pl.exchange = none := by
  obtain ⟨-, -, -, -, -, -, -, -, -, hidle, -⟩ := h
  exact (hidle hreset).1

/-- LOST is entered from any link with a van, its counts in range (R123). -/
theorem PlugLink.lose_linkOk (hplug : pl.plugClosed = true) (hfailures : pl.failures ≤ 3) (hmisses : pl.misses ≤ 6) :
    PlugLink.linkOk { pl.lose with accept := 0 } := by
  simp [PlugLink.linkOk, PlugLink.lose, *]

/-- PLUG_CLOSED (R111, R113). -/
theorem PlugLink.plug_linkOk (h : pl.linkOk) (hopen : pl.plugClosed = false) :
    PlugLink.linkOk { pl.sendReset with plugClosed := true, settle := .stopped, link := .resetting, failures := 0, misses := 0 } := by
  obtain ⟨hplug, -, -, -, haccept, -, hpoll, hrecovery, -, -, hpause, -⟩ := h
  have hlink := hplug.mpr hopen
  simp_all [PlugLink.linkOk, PlugLink.sendReset]

theorem PlugLink.unplug_linkOk (pl : PlugLink) : PlugLink.linkOk { pl.unplug with accept := 0 } := by
  simp [PlugLink.linkOk, PlugLink.unplug]

/-- Presence found in RESETTING (R119). -/
theorem PlugLink.present_linkOk (h : pl.linkOk) (hreset : pl.resetOnLine = true) (hlink : pl.link = .resetting) :
    PlugLink.linkOk { pl.writeCommand .ident with resetOnLine := false, misses := 0, link := .identifying } := by
  simp_all [PlugLink.linkOk, PlugLink.writeCommand]

/-- No presence in RESETTING (R122). -/
theorem PlugLink.missed_linkOk (h : pl.linkOk) (hreset : pl.resetOnLine = true) (hlink : pl.link = .resetting)
    (hmisses : pl.misses + 1 ≤ 5) :
    PlugLink.linkOk { pl with
      resetOnLine := false, output := .released, misses := pl.misses + 1, resetWait := .running 1000 } := by
  have hall : pl.misses + 1 ≤ 6 := by omega
  have hbusy := PlugLink.busyWait_of_idle h (PlugLink.idle_of_reset h hreset)
  simp_all [PlugLink.linkOk]

/-- Presence found, or not, by a recovery attempt (R124). -/
theorem PlugLink.recoveryPresent_linkOk (h : pl.linkOk) (hlink : pl.link = .lost) (hreset : pl.resetOnLine = true) :
    PlugLink.linkOk { pl.writeCommand .ident with resetOnLine := false } := by
  simp_all [PlugLink.linkOk, PlugLink.writeCommand]

theorem PlugLink.recoveryMissed_linkOk (h : pl.linkOk) (hlink : pl.link = .lost) :
    PlugLink.linkOk { pl with resetOnLine := false, output := .released } := by
  simp_all [PlugLink.linkOk]

/-- The next link reset in RESETTING (R119, R122). -/
theorem PlugLink.sendReset_linkOk (h : pl.linkOk) (hlink : pl.link = .resetting) : pl.sendReset.linkOk := by
  simp_all [PlugLink.linkOk, PlugLink.sendReset]

/-- A recovery attempt (R124). -/
theorem PlugLink.recovery_linkOk (h : pl.linkOk) (hlink : pl.link = .lost) :
    PlugLink.linkOk { pl.sendReset with recoveryTimer := .running 10000 } := by
  simp_all [PlugLink.linkOk, PlugLink.sendReset]

/-! ## Exchanges (R118 to R124) -/

theorem PlugLink.reading_iff : pl.reading = some e ↔ pl.busyWait.isRunning = false ∧ pl.exchange = some e := by
  unfold PlugLink.reading
  split <;> simp_all

theorem PlugLink.ident_link (h : pl.linkOk) (hx : pl.exchange = some e) (hident : e.command = .ident) :
    pl.link = .identifying ∨ pl.link = .lost := by
  obtain ⟨-, hfits, -⟩ := h
  cases hlink : pl.link <;> simp_all

theorem PlugLink.request_link (h : pl.linkOk) (hx : pl.exchange = some e) (hrequest : e.command ≠ .ident) : pl.link = .exchange := by
  obtain ⟨-, hfits, -⟩ := h
  cases hlink : pl.link <;> simp_all

theorem exchangeFits_of_command {l : LinkState} {e' : Exchange} (h : exchangeFits l (some e)) (hcommand : e'.command = e.command) :
    exchangeFits l (some e') := by
  cases l <;> simp_all

/-- The command goes out again, in 50 ms or at once, with the counts within their bounds (R118). -/
theorem PlugLink.again_linkOk {e' : Exchange} (wait : Timer) (output : LinkOutput) (h : pl.linkOk) (hx : pl.exchange = some e)
    (hcommand : e'.command = e.command) (hcounts : e'.busy ≤ 8 ∧ e'.bad ≤ 2) :
    PlugLink.linkOk { pl with exchange := some e', busyWait := wait, output := output } := by
  have hfits : exchangeFits pl.link (some e') := exchangeFits_of_command (hx ▸ h.2.1) hcommand
  simp_all [PlugLink.linkOk]

theorem PlugLink.counts_of_linkOk (h : pl.linkOk) (hx : pl.exchange = some e) : e.busy ≤ 8 ∧ e.bad ≤ 2 := by
  obtain ⟨-, -, -, -, -, -, -, -, -, -, -, -, hcounts, -⟩ := h
  exact hcounts e hx

/-- What a reply leaves in flight is the same command, with one more busy or bad reply counted (R118). -/
theorem exchangeEnd_again {v : Verdict} {e' : Exchange} (hend : exchangeEnd e v = .repoll e' ∨ exchangeEnd e v = .retry e')
    (hcounts : e.busy ≤ 8 ∧ e.bad ≤ 2) : e'.command = e.command ∧ e'.busy ≤ 8 ∧ e'.bad ≤ 2 := by
  unfold exchangeEnd at hend
  cases v with
  | valid => simp at hend
  | refused => cases hcommand : e.command <;> simp [hcommand] at hend
  | busy =>
      by_cases hleft : e.busy + 1 ≤ 8
      · simp only [hleft, if_true, ExchangeEnd.repoll.injEq, reduceCtorEq, or_false] at hend
        subst hend
        exact ⟨rfl, hleft, hcounts.2⟩
      · simp [hleft] at hend
  | bad =>
      by_cases hleft : e.bad + 1 ≤ 2
      · simp only [hleft, if_true, ExchangeEnd.retry.injEq, reduceCtorEq, false_or] at hend
        subst hend
        exact ⟨rfl, hcounts.1, hleft⟩
      · simp [hleft] at hend

/-- A completed STATUS or HEATER leaves a READY link, on which a waiting request is due (R118, R126). -/
theorem PlugLink.complete_linkDue (status : Option LinkStatus) (accept : Nat) (heaterWanted : Option Heaters) (h : pl.linkOk)
    (hlink : pl.link = .exchange) :
    PlugLink.linkDue { pl.complete with status := status, accept := accept, heaterWanted := heaterWanted } := by
  simp_all [PlugLink.linkOk, PlugLink.linkDue, PlugLink.complete, PlugLink.endExchange]

/-- An identity found leaves a READY link (R119, R124). -/
theorem PlugLink.identified_linkDue (v : VanIdentity) (h : pl.linkOk) (hx : pl.exchange = some e)
    (hlink : pl.link = .identifying ∨ pl.link = .lost) : (pl.identified v).linkDue := by
  have hreset : pl.resetOnLine = false := by
    by_contra hreset
    simp [PlugLink.idle_of_reset h (by simpa using hreset)] at hx
  rcases hlink with hlink | hlink <;>
    simp_all [PlugLink.linkOk, PlugLink.linkDue, PlugLink.identified, PlugLink.complete, PlugLink.endExchange]

/-- What the link held of the first van is cleared when another is found (R124). -/
def PlugLink.cleared (pl : PlugLink) : PlugLink :=
  { pl with wantStatus := false, wantHeater := none, status := none, heaterWanted := none }

theorem PlugLink.cleared_linkDue (h : pl.linkDue) : pl.cleared.linkDue := by
  obtain ⟨hplug, hfits, hempty, hrest⟩ := h
  refine ⟨hplug, hfits, fun hlink => ?_, hrest⟩
  obtain ⟨-, -, hidentity, -⟩ := hempty hlink
  exact ⟨rfl, rfl, hidentity, rfl, rfl⟩

/-- A failed IDENT waits for the next link reset (R119). -/
theorem PlugLink.identFailed_linkOk (h : pl.linkOk) (hlink : pl.link = .identifying) (hleft : pl.failures + 1 < 3) :
    PlugLink.linkOk { pl.endExchange with failures := pl.failures + 1, link := .resetting, misses := 0, resetWait := .running 1000 } := by
  have hfailures : pl.failures + 1 ≤ 3 := by omega
  have hbelow : pl.failures ≤ 1 := by omega
  simp_all [PlugLink.linkOk, PlugLink.endExchange]

/-- A failed STATUS or HEATER leaves a READY link in its service pause (R118, R126). -/
theorem PlugLink.requestFailed_linkOk (c : LinkCommand) (h : pl.linkOk) (hlink : pl.link = .exchange) (hleft : pl.failures + 1 < 3) :
    PlugLink.linkOk { pl.endExchange.returnRequest c with
      failures := pl.failures + 1, link := .ready, pause := .running 1000 } := by
  have hfailures : pl.failures + 1 ≤ 3 := by omega
  have hbelow : pl.failures ≤ 1 := by omega
  cases c <;> simp_all [PlugLink.linkOk, PlugLink.endExchange, PlugLink.returnRequest]

/-- A failed recovery attempt ends, with the link still LOST (R124). -/
theorem PlugLink.endExchange_linkOk (h : pl.linkOk) (hlink : pl.link = .lost) : pl.endExchange.linkOk := by
  simp_all [PlugLink.linkOk, PlugLink.endExchange]

/-! ## Timers (R118, R125, R127) -/

theorem PlugLink.pauseEnded_linkDue (h : pl.linkOk) : PlugLink.linkDue { pl with pause := .stopped } := by
  simp_all [PlugLink.linkOk, PlugLink.linkDue]

theorem PlugLink.polled_linkDue (h : pl.linkDue) (hpoll : pl.pollTimer.isRunning = true) :
    PlugLink.linkDue { pl with pollTimer := .running 10000 } := by
  simp_all [PlugLink.linkDue]

theorem PlugLink.counts_range (h : pl.linkOk) : pl.failures ≤ 3 ∧ pl.misses ≤ 6 ∧ (pl.link ≠ .lost → pl.failures ≤ 2)
    ∧ (pl.link = .resetting → pl.misses ≤ 5) := by
  obtain ⟨-, -, -, -, -, -, -, -, -, -, -, -, -, hfailures, hmisses, hnotLost, hresetting⟩ := h
  exact ⟨hfailures, hmisses, hnotLost, hresetting⟩

end

section
variable {s t u : State} {r : LinkReply} {e : Exchange}

/-! ## The link in the part -/

/-- The plug contact, its settle time, the plug state and the configuration state stand as they stood (R111). -/
structure State.KeepsPlug (s t : State) : Prop where
  contact : t.pl.contact = s.pl.contact
  settle : t.pl.settle = s.pl.settle
  plugClosed : t.pl.plugClosed = s.pl.plugClosed
  config : t.sl.config = s.sl.config

theorem State.withPl_keepsPlug {pl : PlugLink} (s : State) (hcontact : pl.contact = s.pl.contact := by rfl)
    (hsettle : pl.settle = s.pl.settle := by rfl) (hplug : pl.plugClosed = s.pl.plugClosed := by rfl) : s.KeepsPlug (s.withPl pl) :=
  ⟨hcontact, hsettle, hplug, rfl⟩

theorem State.keepsPlug_of_asked (h : s.pl.Asked t.pl) (hconfig : t.sl.config = s.sl.config := by simp) : s.KeepsPlug t :=
  ⟨h.contact, by rw [h.spec.1], h.plugClosed, hconfig⟩

theorem State.KeepsPlug.trans (h : s.KeepsPlug t) (k : t.KeepsPlug u) : s.KeepsPlug u :=
  ⟨k.contact.trans h.contact, k.settle.trans h.settle, k.plugClosed.trans h.plugClosed, k.config.trans h.config⟩

theorem State.KeepsPlug.linkOk (h : s.KeepsPlug t) (hs : s.linkOk) (hpl : t.pl.linkOk) : t.linkOk := by
  obtain ⟨-, hsettle, hloading⟩ := hs
  refine ⟨hpl, ?_, ?_⟩
  · rw [PlugLink.settleOk, h.contact, h.settle, h.plugClosed]
    exact hsettle
  · rw [h.config, h.contact, h.plugClosed]
    exact hloading

/-- An exchange that is due begins (R126). -/
theorem State.KeepsPlug.settled (h : s.KeepsPlug t) (hs : s.linkOk) (hdue : t.pl.linkDue) : t.settleLink.linkOk := by
  obtain ⟨hplug, hsettle, hcontact, -⟩ := t.pl.beginExchange_spec
  exact (h.trans ⟨hcontact, hsettle, hplug, rfl⟩ : s.KeepsPlug t.settleLink).linkOk hs (PlugLink.beginExchange_linkOk hdue)

theorem State.withPl_linkOk {pl : PlugLink} (hs : s.linkOk) (hpl : pl.linkOk) (hcontact : pl.contact = s.pl.contact := by rfl)
    (hsettle : pl.settle = s.pl.settle := by rfl) (hplug : pl.plugClosed = s.pl.plugClosed := by rfl) : (s.withPl pl).linkOk :=
  (s.withPl_keepsPlug hcontact hsettle hplug).linkOk hs hpl

theorem State.linkOk_of_pl (hs : s.linkOk) (hpl : t.pl = s.pl := by simp) (hconfig : t.sl.config = s.sl.config := by simp) : t.linkOk :=
  (⟨by rw [hpl], by rw [hpl], by rw [hpl], hconfig⟩ : s.KeepsPlug t).linkOk hs (hpl ▸ hs.1)

theorem State.Walked.settled_linkOk (h : s.Walked u) (hs : s.linkOk) : u.settleLink.linkOk :=
  (State.keepsPlug_of_asked h.asked h.config).settled hs (h.asked.linkDue (PlugLink.linkOk_iff.mp hs.1).1)

theorem State.WalksTo.linkOk (h : s.WalksTo t) (hs : s.linkOk) : t.linkOk := by
  obtain ⟨u, hu, ⟨rfl, hpl⟩ | rfl⟩ := h
  · exact State.linkOk_of_pl hs hpl hu.config
  · exact hu.settled_linkOk hs

/-! ## LOST (R123) -/

@[simp] theorem State.linkLostReport_config (s : State) : s.linkLostReport.sl.config = s.sl.config := by
  cases hvan : s.pw.van.isSome with
  | false => rw [s.linkLostReport_of_noVan hvan]
  | true => rw [s.linkLostReport_of_van hvan]; simp

theorem State.enterLost_config (s : State) : s.enterLost.sl.config = s.sl.config := by
  rw [State.enterLost_eq]
  simp [State.linkDropped]

theorem State.enterLost_linkOk {pl : PlugLink} (hs : s.linkOk) (hplug : pl.plugClosed = true) (hfailures : pl.failures ≤ 3)
    (hmisses : pl.misses ≤ 6) (hcontact : pl.contact = s.pl.contact := by rfl) (hsettle : pl.settle = s.pl.settle := by rfl)
    (hkept : pl.plugClosed = s.pl.plugClosed := by rfl) : (s.withPl pl).enterLost.linkOk := by
  have hpl := State.enterLost_pl (s := s.withPl pl)
  have hkeeps : s.KeepsPlug (s.withPl pl).enterLost := by
    refine ⟨?_, ?_, ?_, State.enterLost_config _⟩
    · rw [hpl]; exact hcontact
    · rw [hpl]; exact hsettle
    · rw [hpl]; exact hkept
  refine hkeeps.linkOk hs ?_
  rw [hpl]
  exact PlugLink.lose_linkOk hplug hfailures hmisses

/-! ## Link resets (R114, R122, R124) -/

theorem State.resetMissed_linkOk (hs : s.linkOk) (hreset : s.pl.resetOnLine = true) (hlink : s.pl.link = .resetting) :
    s.resetMissed.linkOk := by
  obtain ⟨hfailures, -, -, hmisses⟩ := PlugLink.counts_range hs.1
  have hplug := PlugLink.plugged_of_link hs.1 (by simp [hlink])
  unfold State.resetMissed
  dsimp only
  split
  · next hleft => exact State.withPl_linkOk hs (PlugLink.missed_linkOk hs.1 hreset hlink hleft)
  · refine State.enterLost_linkOk hs hplug hfailures ?_
    have := hmisses hlink
    dsimp only
    omega

theorem execLinkResetResult_linkOk {fellAt : Option Nat} {highAgain : Bool} (hs : s.linkOk)
    (h : execLinkResetResult fellAt highAgain s = .next t) : t.linkOk := by
  cases h
  split
  · next hreset =>
      split
      · next hlink =>
          split
          · exact State.withPl_linkOk hs (PlugLink.present_linkOk hs.1 hreset hlink)
          · exact State.resetMissed_linkOk hs hreset hlink
      · split
        · next hlink =>
            split
            · exact State.withPl_linkOk hs (PlugLink.recoveryPresent_linkOk hs.1 hlink hreset)
            · exact State.withPl_linkOk hs (PlugLink.recoveryMissed_linkOk hs.1 hlink)
        · exact hs
  · exact hs

theorem execResetRetryWaitExpiry_linkOk (hs : s.linkOk) (h : execResetRetryWaitExpiry s = .next t) : t.linkOk := by
  cases h
  split
  · next hdue =>
      simp only [Bool.and_eq_true, decide_eq_true_eq] at hdue
      exact State.withPl_linkOk hs (PlugLink.sendReset_linkOk hs.1 hdue.2)
  · exact hs

theorem execRecoveryTimerExpiry_linkOk (hs : s.linkOk) (h : execRecoveryTimerExpiry s = .next t) : t.linkOk := by
  cases h
  split
  · next hdue =>
      simp only [Bool.and_eq_true, decide_eq_true_eq] at hdue
      exact State.withPl_linkOk hs (PlugLink.recovery_linkOk hs.1 hdue.2)
  · exact hs

/-! ## Replies (R117 to R124) -/

/-- A busy or bad reply within its bounds (R118). -/
theorem State.again_linkOk {e' : Exchange} {v : Verdict} (wait : Timer) (output : LinkOutput) (hs : s.linkOk) (hx : s.pl.exchange = some e)
    (hend : exchangeEnd e v = .repoll e' ∨ exchangeEnd e v = .retry e') :
    (s.withPl { s.pl with exchange := some e', busyWait := wait, output := output }).linkOk := by
  obtain ⟨hcommand, hcounts⟩ := exchangeEnd_again hend (PlugLink.counts_of_linkOk hs.1 hx)
  exact State.withPl_linkOk hs (PlugLink.again_linkOk wait output hs.1 hx hcommand hcounts)

theorem State.requestFailed_linkOk (c : LinkCommand) (hs : s.linkOk) (hlink : s.pl.link = .exchange) : (s.requestFailed c).linkOk := by
  obtain ⟨-, hmisses, hfailures, -⟩ := PlugLink.counts_range hs.1
  have hplug := PlugLink.plugged_of_link hs.1 (by simp [hlink])
  have hbelow := hfailures (by simp [hlink])
  unfold State.requestFailed
  dsimp only
  split
  · next hleft =>
      have hpl := PlugLink.requestFailed_linkOk c hs.1 hlink hleft
      cases c <;> exact State.withPl_linkOk hs hpl
  · cases c <;> exact State.enterLost_linkOk hs hplug (by dsimp only; omega) hmisses

theorem State.identFailed_linkOk (hs : s.linkOk) (hlink : s.pl.link = .identifying) : s.identFailed.linkOk := by
  obtain ⟨-, hmisses, hfailures, -⟩ := PlugLink.counts_range hs.1
  have hplug := PlugLink.plugged_of_link hs.1 (by simp [hlink])
  have hbelow := hfailures (by simp [hlink])
  unfold State.identFailed
  dsimp only
  split
  · next hleft => exact State.withPl_linkOk hs (PlugLink.identFailed_linkOk hs.1 hlink hleft)
  · exact State.enterLost_linkOk hs hplug (by dsimp only; omega) hmisses

theorem State.identValid_settled_linkOk (v : VanIdentity) (hs : s.linkOk) (hdue : (s.pl.identified v).linkDue) :
    (s.identValid v).settleLink.linkOk := by
  have hvan := (s.withPl (s.pl.identified v)).vanIdentified_asked v.tag v.capacity
  refine ((s.withPl_keepsPlug (pl := s.pl.identified v)).trans (State.keepsPlug_of_asked (t := s.identValid v) ?_ ?_)).settled hs ?_
  · simpa [State.identValid] using hvan
  · simp [State.identValid]
  · simpa [State.identValid] using hvan.linkDue hdue

theorem State.recovered_settled_linkOk (v : VanIdentity) (hs : s.linkOk) (hdue : (s.pl.identified v).linkDue) :
    (s.recovered v).settleLink.linkOk := by
  unfold State.recovered
  dsimp only
  split
  · have hvan := (s.withPl (s.pl.identified v)).sameVan_asked
    refine ((s.withPl_keepsPlug (pl := s.pl.identified v)).trans (State.keepsPlug_of_asked ?_ ?_)).settled hs ?_
    · simpa using hvan
    · simp
    · simpa using hvan.linkDue hdue
  · have hvan := (s.withPl (s.pl.identified v).cleared).differentVan_asked v.tag v.capacity
    refine ((s.withPl_keepsPlug (pl := (s.pl.identified v).cleared)).trans (State.keepsPlug_of_asked ?_ ?_)).settled hs ?_
    · rw [State.linkView_pl]
      exact hvan
    · simp
    · rw [State.linkView_pl]
      exact hvan.linkDue (PlugLink.cleared_linkDue hdue)

theorem execIdentReply_linkOk (hs : s.linkOk) (h : execIdentReply r s = .next t) : t.linkOk := by
  cases h
  split
  · next busy bad hreading =>
      have hx := (PlugLink.reading_iff.mp hreading).2
      have hlink := PlugLink.ident_link hs.1 hx rfl
      split
      · split
        · next hend => exact State.again_linkOk _ _ hs hx (.inl hend)
        · next hend => exact State.again_linkOk _ _ hs hx (.inr hend)
        · have hdue := PlugLink.identified_linkDue (readIdentity r.data) hs.1 hx hlink
          split
          · exact State.recovered_settled_linkOk _ hs hdue
          · exact State.identValid_settled_linkOk _ hs hdue
        · split
          · next hlost => exact State.withPl_linkOk hs (PlugLink.endExchange_linkOk hs.1 hlost)
          · next hlost => exact State.identFailed_linkOk hs (hlink.resolve_right hlost)
      · exact hs
  · exact hs

theorem PlugLink.checkHeaters_asked (st : LinkStatus) (pl : PlugLink) : pl.Asked (pl.checkHeaters st) := by
  unfold PlugLink.checkHeaters
  split
  · split
    · exact .heater (.refl _) _
    · exact .refl _
  · exact .refl _

theorem State.statusValid_settled_linkOk (st : LinkStatus) (hs : s.linkOk) (hlink : s.pl.link = .exchange) :
    (s.statusValid st).settleLink.linkOk := by
  have hdue := PlugLink.complete_linkDue (some st) (effectiveAccept s.pl.identity st) s.pl.heaterWanted hs.1 hlink
  have hasked := (State.takeStatus_asked (State.handAccept (effectiveAccept s.pl.identity st)
    (s.withPl { s.pl.complete with status := some st })) st.soc st.temperature).trans (PlugLink.checkHeaters_asked st _)
  have hhanded : s.KeepsPlug (State.handAccept (effectiveAccept s.pl.identity st)
      (s.withPl { s.pl.complete with status := some st })) := ⟨rfl, rfl, rfl, rfl⟩
  exact (hhanded.trans (State.keepsPlug_of_asked hasked)).settled hs (hasked.linkDue hdue)

theorem execStatusReply_linkOk (hs : s.linkOk) (h : execStatusReply r s = .next t) : t.linkOk := by
  cases h
  split
  · next busy bad hreading =>
      have hx := (PlugLink.reading_iff.mp hreading).2
      have hlink := PlugLink.request_link hs.1 hx (by simp)
      split
      · split
        · next hend => exact State.again_linkOk _ _ hs hx (.inl hend)
        · next hend => exact State.again_linkOk _ _ hs hx (.inr hend)
        · exact State.statusValid_settled_linkOk _ hs hlink
        · exact State.requestFailed_linkOk _ hs hlink
      · exact hs
  · exact hs

theorem execHeaterReply_linkOk (hs : s.linkOk) (h : execHeaterReply r s = .next t) : t.linkOk := by
  cases h
  split
  · next heaters busy bad hreading =>
      have hx := (PlugLink.reading_iff.mp hreading).2
      have hlink := PlugLink.request_link hs.1 hx (by simp)
      have hdue := fun wanted => PlugLink.complete_linkDue s.pl.status s.pl.accept wanted hs.1 hlink
      split
      · split
        · next hend => exact State.again_linkOk _ _ hs hx (.inl hend)
        · next hend => exact State.again_linkOk _ _ hs hx (.inr hend)
        · exact (s.withPl_keepsPlug).settled hs (hdue (some heaters))
        · have hrefused := (s.withPl s.pl.complete).heaterRefused_walked heaters
          exact ((s.withPl_keepsPlug).trans (State.keepsPlug_of_asked hrefused.asked hrefused.config)).settled hs
            (hrefused.asked.linkDue (hdue s.pl.heaterWanted))
        · exact State.requestFailed_linkOk _ hs hlink
      · exact hs
  · exact hs

/-! ## Timers (R118, R125 to R127) -/

theorem execBusyRepollWaitExpiry_linkOk (hs : s.linkOk) (h : execBusyRepollWaitExpiry s = .next t) : t.linkOk := by
  cases h
  split
  · next e hx =>
      split
      · have hpl := PlugLink.again_linkOk .stopped (.command e.command.slots) hs.1 hx rfl (PlugLink.counts_of_linkOk hs.1 hx)
        rw [← hx] at hpl
        exact State.withPl_linkOk hs hpl
      · exact hs
  · exact hs

theorem execServicePauseEnd_linkOk (hs : s.linkOk) (h : execServicePauseEnd s = .next t) : t.linkOk := by
  cases h
  split
  · exact (s.withPl_keepsPlug).settled hs (PlugLink.pauseEnded_linkDue hs.1)
  · exact hs

theorem execPollTimerExpiry_linkOk (hs : s.linkOk) (h : execPollTimerExpiry s = .next t) : t.linkOk := by
  cases h
  split
  · next hpoll =>
      have hplaced : s.pl.Asked s.pl.placeStatus := .status (.refl _)
      have hrunning : s.pl.placeStatus.pollTimer.isRunning = true := by rwa [hplaced.spec.1]
      have hdue := PlugLink.polled_linkDue (hplaced.linkDue (PlugLink.linkOk_iff.mp hs.1).1) hrunning
      have hkeeps : s.KeepsPlug (s.withPl { s.pl.placeStatus with pollTimer := .running 10000 }) :=
        s.withPl_keepsPlug hplaced.contact (by rw [hplaced.spec.1]) hplaced.plugClosed
      exact hkeeps.settled hs hdue
  · exact hs

/-! ## The plug (R111, R112) -/

theorem execPlugContactChange_linkOk {closed : Bool} (hs : s.linkOk) (h : execPlugContactChange closed s = .next t) : t.linkOk := by
  cases h
  split
  · next hdue =>
      simp only [State.active, Bool.and_eq_true, decide_eq_true_eq] at hdue
      obtain ⟨⟨hactive, -⟩, -⟩ := hdue
      refine ⟨hs.1, ?_, fun hloading => ?_⟩
      · simp only [State.withPl_pl, PlugLink.settleOk]
        cases closed <;> cases s.pl.plugClosed <;> simp
      · rw [State.withPl_sl, hactive] at hloading
        simp at hloading
  · exact hs

theorem PlugLink.settlesTo_iff {pl : PlugLink} {closed : Bool} :
    pl.settlesTo closed = true ↔ pl.settle.isRunning = true ∧ pl.contact = some closed ∧ pl.plugClosed = !closed := by
  unfold PlugLink.settlesTo
  cases closed <;> simp [and_assoc]

theorem State.not_loading_of_contact {closed : Bool} (hs : s.linkOk) (hcontact : s.pl.contact = some closed) : s.sl.config ≠ .loading := by
  obtain ⟨-, -, hloading⟩ := hs
  intro hconfig
  simp [hloading hconfig] at hcontact

theorem execPlugClosed_linkOk (hs : s.linkOk) (h : execPlugClosed s = .next t) : t.linkOk := by
  cases h
  split
  · next hdue =>
      obtain ⟨-, hcontact, hopen⟩ := PlugLink.settlesTo_iff.mp hdue
      refine ⟨PlugLink.plug_linkOk hs.1 hopen, ?_, fun hloading => (State.not_loading_of_contact hs hcontact hloading).elim⟩
      simp [PlugLink.settleOk, PlugLink.sendReset, hcontact]
  · exact hs

/-- A link with no plug takes no requests, so what the walker does at a removal leaves it as it is (R112, R125). -/
theorem State.plugOpened_pl (s : State) :
    (State.powerPlugRemoved (State.walkerPlugRemoved (State.handAccept 0 (s.withPl s.pl.unplug)))).pl = { s.pl.unplug with accept := 0 } := by
  unfold State.powerPlugRemoved
  dsimp only
  split
  · simp [State.handAccept]
  · rw [(State.setHolds_asked _ _).spec.2 (by simp [State.handAccept, PlugLink.unplug])]
    simp [State.handAccept]

theorem execPlugOpen_linkOk (hs : s.linkOk) (h : execPlugOpen s = .next t) : t.linkOk := by
  cases h
  split
  · next hdue =>
      obtain ⟨-, hcontact, -⟩ := PlugLink.settlesTo_iff.mp hdue
      refine ⟨?_, ?_, fun hloading => absurd (by simpa using hloading) (State.not_loading_of_contact hs hcontact)⟩
      · rw [State.plugOpened_pl]
        exact PlugLink.unplug_linkOk _
      · rw [State.plugOpened_pl]
        simp [PlugLink.settleOk, PlugLink.unplug, hcontact]
  · exact hs

/-! ## The supply events, the image and every other command -/

theorem powerOn_linkOk (brownOut senseClosed : Bool) (waiting : List Instr) : (powerOn brownOut senseClosed waiting).linkOk := by
  have hpl : PlugLink.linkOk PlugLink.reset := by simp [PlugLink.linkOk, PlugLink.reset]
  refine ⟨hpl, ?_, fun _ => ⟨rfl, rfl⟩⟩
  simp [PlugLink.settleOk, powerOn, State.reset, PlugLink.reset]

/-- The first sample of the contact, with the plug state OPEN (R110, R111). -/
theorem PlugLink.firstSample_linkOk {pl : PlugLink} (contactClosed : Bool) (h : pl.linkOk) (hopen : pl.plugClosed = false) :
    (pl.firstSample contactClosed).linkOk ∧ (pl.firstSample contactClosed).settleOk := by
  refine ⟨h, ?_⟩
  cases contactClosed <;> simp [PlugLink.settleOk, PlugLink.firstSample, hopen]

theorem State.enterActive_pl (c : Settings) (contactClosed : Bool) (s : State) :
    (s.enterActive c contactClosed).pl = s.pl.firstSample contactClosed := by
  rw [State.enterActive_eq]
  split
  · rw [State.queueReport_pl]; rfl
  · rfl

theorem State.enterActive_config (c : Settings) (contactClosed : Bool) (s : State) :
    (s.enterActive c contactClosed).sl.config = .active := by
  simpa [State.active] using s.enterActive_active c contactClosed

theorem execImageReadComplete_linkOk {bits : List Bool} {contactClosed : Bool} (hs : s.linkOk)
    (h : execImageReadComplete bits contactClosed s = .next t) : t.linkOk := by
  obtain ⟨hpl, hsettle, hloading⟩ := id hs
  cases h
  split
  · next hdue =>
      have hunplugged := hloading (by simpa [State.loading] using hdue.1)
      unfold State.judgeImage
      split
      · obtain ⟨hfirst, hsettles⟩ := PlugLink.firstSample_linkOk contactClosed hpl hunplugged.2
        refine ⟨?_, ?_, fun hconfig => ?_⟩
        · rwa [State.enterActive_pl]
        · rwa [State.enterActive_pl]
        · simp [State.enterActive_config] at hconfig
      · exact ⟨hpl, hsettle, fun _ => hunplugged⟩
  · exact hs

/-! ## The contactor and the meter (R139, R143) -/

/-- A cause set holds the walker, which asks for nothing then (R88). -/
theorem State.setHolds_pl_of_holding {holds : HoldSet} (h : holds.holding = true) : (s.setHolds holds).pl = s.pl := by
  rw [s.setHolds_of_holding h]
  simp

theorem HoldSet.holding_of_fault (holds : HoldSet) : ({ holds with contactorFault := true } : HoldSet).holding = true := by
  simp [HoldSet.holding]

theorem HoldSet.holding_of_meterLost (holds : HoldSet) : ({ holds with meterLost := true } : HoldSet).holding = true := by
  simp [HoldSet.holding]

@[simp] theorem State.setCloseLatch_pl (s : State) : s.setCloseLatch.pl = s.pl := by
  rw [State.setCloseLatch, State.queueReport_pl, State.setHolds_pl_of_holding (HoldSet.holding_of_fault _), State.withPs_pl]

@[simp] theorem State.setWeldLatch_pl (s : State) : s.setWeldLatch.pl = s.pl := by
  rw [State.setWeldLatch, State.queueReport_pl, State.setHolds_pl_of_holding (HoldSet.holding_of_fault _), State.withPs_pl]

@[simp] theorem State.failedClose_pl (s : State) : s.failedClose.pl = s.pl := by
  unfold State.failedClose
  split <;> simp

theorem execSenseReadsOpen_linkOk (hs : s.linkOk) (h : execSenseReadsOpen s = .next t) : t.linkOk := by
  cases h
  dsimp only
  split <;> exact State.linkOk_of_pl hs

theorem execMeterLost_linkOk (hs : s.linkOk) (h : execMeterLost s = .next t) : t.linkOk := by
  cases h
  dsimp only
  split
  · refine State.linkOk_of_pl hs ?_
    rw [State.queueReport_pl, State.setHolds_pl_of_holding (HoldSet.holding_of_meterLost _), State.withPs_pl]
  · exact hs

/-- Requests placed by the walker begin at the command's end (R126, log 10). -/
theorem State.settled_of_asked (hs : s.linkOk) (h : s.pl.Asked u.pl) (hconfig : u.sl.config = s.sl.config := by simp) :
    u.settleLink.linkOk :=
  (State.keepsPlug_of_asked h hconfig).settled hs (h.linkDue (PlugLink.linkOk_iff.mp hs.1).1)

theorem execDrawUpdate_linkOk {power : Nat} (hs : s.linkOk) (h : execDrawUpdate power s = .next t) : t.linkOk := by
  cases h
  dsimp only
  split
  · split
    · refine State.settled_of_asked hs ?_
      rw [State.endDrawPhase_pl]
      exact State.setHolds_asked (s.withPs (s.ps.takeDraw power)) _
    · refine State.settled_of_asked hs ?_
      rw [State.endDrawPhase_pl]
      exact .refl _
  · exact hs

/-! ## Site frames and the claim period -/

theorem State.handSite_asked (f : RxSite) (s : State) : s.pl.Asked (s.handSite f).pl := by
  have hoffer : ∀ u : State, u.pl = s.pl → s.pl.Asked (u.offerAnchor f.time).pl := fun u hu => hu ▸ u.offerAnchor_asked f.time
  unfold State.handSite
  dsimp only
  split <;> exact hoffer _ rfl

theorem execSiteReceived_linkOk {check : Byte} (hs : s.linkOk) (h : execSiteReceived check s = .next t) : t.linkOk := by
  cases h
  split
  · dsimp only
    split
    · exact State.settled_of_asked hs (State.handSite_asked _ (s.acceptFrame check))
    · exact State.linkOk_of_pl hs
  · exact hs

theorem State.claimPeriod_pl (s : State) : s.claimPeriod.pl = s.expiryPosted.pl := by simp [State.claimPeriod]

theorem execClaimPeriodExpiry_linkOk (hs : s.linkOk) (h : execClaimPeriodExpiry s = .next t) : t.linkOk := by
  cases h
  split
  · refine State.settled_of_asked hs ?_
    rw [State.claimPeriod_pl]
    exact (State.expiryGate_walked s ((s.withPv s.pv.clearUnlisted).withPs (s.ps.takePosting s.cfg s.expiryShare)) rfl).asked
  · exact hs

/-! ## Every command -/

theorem exec_linkOk {c : Instr} (hs : s.linkOk) (h : exec c s = .next t) : t.linkOk := by
  cases c
  case powerUp => cases h; exact powerOn_linkOk _ _ _
  case brownOut => cases h; exact powerOn_linkOk _ _ _
  case imageReadComplete => exact execImageReadComplete_linkOk hs h
  case siteReceived => exact execSiteReceived_linkOk hs h
  case claimPeriodExpiry => exact execClaimPeriodExpiry_linkOk hs h
  case plugContactChange => exact execPlugContactChange_linkOk hs h
  case plugClosed => exact execPlugClosed_linkOk hs h
  case plugOpen => exact execPlugOpen_linkOk hs h
  case linkResetResult => exact execLinkResetResult_linkOk hs h
  case resetRetryWaitExpiry => exact execResetRetryWaitExpiry_linkOk hs h
  case identReply => exact execIdentReply_linkOk hs h
  case statusReply => exact execStatusReply_linkOk hs h
  case heaterReply => exact execHeaterReply_linkOk hs h
  case busyRepollWaitExpiry => exact execBusyRepollWaitExpiry_linkOk hs h
  case servicePauseEnd => exact execServicePauseEnd_linkOk hs h
  case recoveryTimerExpiry => exact execRecoveryTimerExpiry_linkOk hs h
  case pollTimerExpiry => exact execPollTimerExpiry_linkOk hs h
  case senseReadsOpen => exact execSenseReadsOpen_linkOk hs h
  case drawUpdate => exact execDrawUpdate_linkOk hs h
  case meterLost => exact execMeterLost_linkOk hs h
  case senseReadsClosed =>
    cases h
    dsimp only
    split <;> exact State.linkOk_of_pl hs
  case closeSenseTimerExpiry | openSenseTimerExpiry | retryWaitExpiry | drawWaitExpiry =>
    cases h
    split
    · exact State.linkOk_of_pl hs
    · exact hs
  all_goals exact (exec_walksTo rfl h).linkOk hs

end

/-- Settles O57, command by command. -/
theorem linkInvariantKept : Obligations.LinkInvariantKept :=
  step_keeps (P := State.linkOk) (fun _ _ hs => hs) fun _ _ _ hs h => exec_linkOk hs h

end Sys2Proof.Machine
end

section
/-! PROOFS. What the blocks know of each other (spec sections 6.3, 6.4, 8.2, 8.4, 8.5): Power Stage Control's views of the walker, the plug and the
link, its accept limit, and the walker's hold causes stay those of the blocks that own them (R88, R91, R131, R135, R139, R143). -/

namespace Sys2Proof.Machine

/-- What Power Stage Control holds of other blocks, or they of it: the walker's view, the plug, the link, the accept limit, meter lost and the
latches. -/
structure PowerStage.Views where
  state : ProgState
  linkLost : Bool
  meterLostView : Bool
  plugDetected : Bool
  linkWorking : Bool
  acceptLimit : Nat
  meterLost : Bool
  closeLatch : Bool
  weldLatch : Bool

def PowerStage.seen (ps : PowerStage) : PowerStage.Views where
  state := ps.viewState
  linkLost := ps.viewLinkLost
  meterLostView := ps.viewMeterLost
  plugDetected := ps.plugDetected
  linkWorking := ps.linkWorking
  acceptLimit := ps.acceptLimit
  meterLost := ps.meterLost
  closeLatch := ps.closeLatch
  weldLatch := ps.weldLatch

theorem PowerStage.MovedFrom.seen {a b : PowerStage} (h : a.MovedFrom b) : b.seen = a.seen := by
  rw [show b = _ from h]
  rfl

section
variable {s t u : State}

/-! ## What leaves them as they are -/

theorem State.viewsAgree_of (hs : s.viewsAgree) (hpw : t.pw = s.pw) (hps : t.ps.seen = s.ps.seen)
    (hplug : t.pl.plugClosed = s.pl.plugClosed) (hworking : t.pl.link.working = s.pl.link.working) (haccept : t.pl.accept = s.pl.accept)
    (hlost : t.pl.link = .lost ↔ s.pl.link = .lost) : t.viewsAgree := by
  simp only [PowerStage.seen, PowerStage.Views.mk.injEq] at hps
  obtain ⟨hstate, hlink, hmeter, hdetected, hlinked, hlimit, hmeterLost, hclose, hweld⟩ := hps
  simpa only [State.viewsAgree, hpw, hstate, hlink, hmeter, hdetected, hlinked, hlimit, hmeterLost, hclose, hweld, hplug, hworking, haccept,
    hlost] using hs

theorem State.withPs_viewsAgree {ps : PowerStage} (hs : s.viewsAgree) (hps : ps.seen = s.ps.seen := by rfl) : (s.withPs ps).viewsAgree :=
  State.viewsAgree_of hs rfl hps rfl rfl rfl .rfl

theorem State.withPl_viewsAgree {pl : PlugLink} (hs : s.viewsAgree) (hworking : pl.link.working = s.pl.link.working)
    (hlost : pl.link = .lost ↔ s.pl.link = .lost) (hplug : pl.plugClosed = s.pl.plugClosed := by rfl)
    (haccept : pl.accept = s.pl.accept := by rfl) : (s.withPl pl).viewsAgree :=
  State.viewsAgree_of hs rfl rfl hplug hworking haccept hlost

/-- A change of the link's record that leaves its state. -/
theorem State.withPl_viewsAgree_of_link {pl : PlugLink} (hs : s.viewsAgree) (hlink : pl.link = s.pl.link := by rfl)
    (hplug : pl.plugClosed = s.pl.plugClosed := by rfl) (haccept : pl.accept = s.pl.accept := by rfl) : (s.withPl pl).viewsAgree :=
  State.withPl_viewsAgree hs (by rw [hlink]) (by rw [hlink]) hplug haccept

theorem State.viewsAgree_of_eq (hs : s.viewsAgree) (hpw : t.pw = s.pw := by simp) (hps : t.ps = s.ps := by simp)
    (hpl : t.pl = s.pl := by simp) : t.viewsAgree :=
  State.viewsAgree_of hs hpw (by rw [hps]) (by rw [hpl]) (by rw [hpl]) (by rw [hpl]) (by rw [hpl])

theorem State.settleLink_viewsAgree (hs : s.viewsAgree) : s.settleLink.viewsAgree := by
  obtain ⟨hplug, -, -, haccept, -, hworking, hlost⟩ := s.pl.beginExchange_spec
  exact State.withPl_viewsAgree hs hworking hlost hplug haccept

theorem State.asked_viewsAgree {pl : PlugLink} (hs : s.viewsAgree) (h : s.pl.Asked pl) : (s.withPl pl).viewsAgree :=
  State.withPl_viewsAgree_of_link hs h.link h.plugClosed h.accept

/-- The walker's own operations tell Power Stage Control its view, and leave the causes that other blocks own (R88). -/
theorem State.Walked.viewsAgree (h : s.Walked t) (hs : s.viewsAgree) : t.viewsAgree := by
  obtain ⟨hstate, hlink, hmeter, hdetected, hlinked, hlimit, hmeterLost, hfault, hlinkLost⟩ := hs
  obtain ⟨tstate, tlink, tmeter⟩ := h.views ⟨hstate, hlink, hmeter⟩
  obtain ⟨kdetected, klinked, klimit, kmeterLost, kclose, kweld, -⟩ := h.told.kept
  obtain ⟨clink, cmeter, cfault, cvan⟩ := h.causes
  refine ⟨tstate, tlink, tmeter, ?_, ?_, ?_, ?_, ?_, ?_⟩
  · rw [kdetected, h.asked.plugClosed, hdetected]
  · rw [klinked, h.asked.link, hlinked]
  · rw [klimit, h.asked.accept, hlimit]
  · rw [cmeter, kmeterLost, hmeterLost]
  · rw [cfault, kclose, kweld, hfault]
  · rw [clink, h.asked.link, cvan, hlinkLost]

theorem State.WalksTo.viewsAgree (h : s.WalksTo t) (hs : s.viewsAgree) : t.viewsAgree := by
  obtain ⟨u, hu, ⟨rfl, -⟩ | rfl⟩ := h
  · exact hu.viewsAgree hs
  · exact State.settleLink_viewsAgree (hu.viewsAgree hs)

/-! ## What tells them anew -/

/-- A change in the causes, with those that other blocks own as those blocks have them (R88). -/
theorem State.setHolds_viewsAgree {holds : HoldSet} (hplug : u.ps.plugDetected = u.pl.plugClosed)
    (hworking : u.ps.linkWorking = u.pl.link.working) (haccept : u.ps.acceptLimit = u.pl.accept)
    (hmeter : holds.meterLost = u.ps.meterLost) (hfault : holds.contactorFault = (u.ps.closeLatch || u.ps.weldLatch))
    (hlost : holds.linkLost = (decide (u.pl.link = .lost) && u.pw.van.isSome)) : (u.setHolds holds).viewsAgree := by
  obtain ⟨tstate, tlink, tmeter⟩ := u.setHolds_viewsTold holds
  obtain ⟨kdetected, klinked, klimit, kmeterLost, kclose, kweld, -⟩ := (u.setHolds_told holds rfl).kept
  obtain ⟨clink, cmeter, cfault, cvan⟩ := u.setHolds_pw_holds holds
  have hasked := u.setHolds_asked holds
  refine ⟨tstate, tlink, tmeter, ?_, ?_, ?_, ?_, ?_, ?_⟩
  · rw [kdetected, hasked.plugClosed, hplug]
  · rw [klinked, hasked.link, hworking]
  · rw [klimit, hasked.accept, haccept]
  · rw [cmeter, kmeterLost, hmeter]
  · rw [cfault, kclose, kweld, hfault]
  · rw [clink, hasked.link, cvan, hlost]

/-- The link view told, the rest in agreement (R135). -/
theorem State.linkView_viewsAgree {plugDetected linkWorking : Bool} (htold : u.viewsTold) (hplug : plugDetected = u.pl.plugClosed)
    (hworking : linkWorking = u.pl.link.working) (haccept : u.ps.acceptLimit = u.pl.accept)
    (hmeter : u.pw.holds.meterLost = u.ps.meterLost) (hfault : u.pw.holds.contactorFault = (u.ps.closeLatch || u.ps.weldLatch))
    (hlost : u.pw.holds.linkLost = (decide (u.pl.link = .lost) && u.pw.van.isSome)) : (u.linkView plugDetected linkWorking).viewsAgree := by
  obtain ⟨hstate, hlink, hmeterView⟩ := htold
  refine State.viewsAgree_of (s := u.withPs { u.ps with plugDetected := plugDetected, linkWorking := linkWorking })
    ⟨hstate, hlink, hmeterView, hplug, hworking, haccept, hmeter, hfault, hlost⟩ (by simp) ?_ (by simp) (by simp) (by simp) (by simp)
  exact PowerStage.judge_moved.seen

theorem State.viewsAgree_told (hs : s.viewsAgree) : s.viewsTold := by
  obtain ⟨hstate, hlink, hmeter, -⟩ := hs
  exact ⟨hstate, hlink, hmeter⟩

/-! ## The contactor and the meter (R139, R143) -/

theorem State.queueReport_viewsAgree (kind : ReportKind) (tag : VanTag) (detail : Nat) (hs : s.viewsAgree) :
    (s.queueReport kind tag detail).viewsAgree := State.viewsAgree_of_eq hs

theorem State.setCloseLatch_viewsAgree (hs : s.viewsAgree) : s.setCloseLatch.viewsAgree := by
  obtain ⟨-, -, -, hplug, hworking, haccept, hmeter, -, hlost⟩ := hs
  exact State.queueReport_viewsAgree _ _ _ (State.setHolds_viewsAgree hplug hworking haccept hmeter rfl hlost)

theorem State.setWeldLatch_viewsAgree (hs : s.viewsAgree) : s.setWeldLatch.viewsAgree := by
  obtain ⟨-, -, -, hplug, hworking, haccept, hmeter, -, hlost⟩ := hs
  exact State.queueReport_viewsAgree _ _ _
    (State.setHolds_viewsAgree hplug hworking haccept hmeter (by simp) hlost)

theorem State.failedClose_viewsAgree (hs : s.viewsAgree) : s.failedClose.viewsAgree := by
  unfold State.failedClose
  split
  · exact State.withPs_viewsAgree hs
  · exact State.setCloseLatch_viewsAgree hs

theorem execSenseReadsClosed_viewsAgree (hs : s.viewsAgree) (h : execSenseReadsClosed s = .next t) : t.viewsAgree := by
  cases h
  dsimp only
  split <;> exact State.withPs_viewsAgree hs

theorem execSenseReadsOpen_viewsAgree (hs : s.viewsAgree) (h : execSenseReadsOpen s = .next t) : t.viewsAgree := by
  have hread : (s.withPs { s.ps with senseClosed := false }).viewsAgree := State.withPs_viewsAgree hs
  cases h
  dsimp only
  split
  · exact State.failedClose_viewsAgree hread
  · exact State.withPs_viewsAgree hread PowerStage.enterOpen_moved.seen
  · exact hread

theorem State.endDrawPhase_viewsAgree (power : Nat) (hs : s.viewsAgree) : (s.endDrawPhase power).viewsAgree := by
  unfold State.endDrawPhase
  split
  · exact State.withPs_viewsAgree hs PowerStage.beginSensePhase_moved.seen
  · exact hs

theorem execDrawUpdate_viewsAgree {power : Nat} (hs : s.viewsAgree) (h : execDrawUpdate power s = .next t) : t.viewsAgree := by
  obtain ⟨hstate, hlink, hmeterView, hplug, hworking, haccept, hmeter, hfault, hlost⟩ := id hs
  cases h
  dsimp only
  split
  · refine State.settleLink_viewsAgree (State.endDrawPhase_viewsAgree power ?_)
    split
    · exact State.setHolds_viewsAgree hplug hworking haccept rfl hfault hlost
    · next hgood =>
        have hzero : s.ps.meterLost = false := by simpa using hgood
        exact ⟨hstate, hlink, hmeterView, hplug, hworking, haccept, hmeter.trans hzero, hfault, hlost⟩
  · exact hs

theorem execMeterLost_viewsAgree (hs : s.viewsAgree) (h : execMeterLost s = .next t) : t.viewsAgree := by
  obtain ⟨-, -, -, hplug, hworking, haccept, -, hfault, hlost⟩ := id hs
  cases h
  dsimp only
  split
  · exact State.queueReport_viewsAgree _ _ _ (State.setHolds_viewsAgree hplug hworking haccept rfl hfault hlost)
  · exact hs

/-! ## Site frames, the claim period, the supply events and the image -/

theorem execSiteReceived_viewsAgree {check : Byte} (hs : s.viewsAgree) (h : execSiteReceived check s = .next t) : t.viewsAgree := by
  have hhand : ∀ (f : RxSite) (u : State), u.viewsAgree → (u.handSite f).viewsAgree := fun f u hu => by
    refine (State.offerAnchor_walked f.time _).viewsAgree ?_
    split
    · exact State.withPs_viewsAgree (s := u.withSc _) hu
    · exact hu
  cases h
  split
  · dsimp only
    split
    · exact State.settleLink_viewsAgree (hhand _ (s.acceptFrame check) hs)
    · exact hs
  · exact hs

theorem execClaimPeriodExpiry_viewsAgree (hs : s.viewsAgree) (h : execClaimPeriodExpiry s = .next t) : t.viewsAgree := by
  have hposted : s.expiryPosted.viewsAgree :=
    (State.expiryGate_walked s ((s.withPv s.pv.clearUnlisted).withPs (s.ps.takePosting s.cfg s.expiryShare)) rfl).viewsAgree
      (State.withPs_viewsAgree (s := s.withPv s.pv.clearUnlisted) hs)
  cases h
  split
  · exact State.settleLink_viewsAgree (State.viewsAgree_of_eq hposted (by simp [State.claimPeriod]) (by simp [State.claimPeriod])
      (State.claimPeriod_pl s))
  · exact hs

theorem powerOn_viewsAgree (brownOut senseClosed : Bool) (waiting : List Instr) : (powerOn brownOut senseClosed waiting).viewsAgree := by
  simp [State.viewsAgree, powerOn, State.reset, PowerStage.weldCheck, PowerStage.reset, Walker.reset, PlugLink.reset]

theorem State.judgeImage_viewsAgree (image : List Byte) (contactClosed : Bool) (hs : s.viewsAgree) :
    (s.judgeImage image contactClosed).viewsAgree := by
  have hstarted : ∀ c : Settings, (s.started c contactClosed).viewsAgree := fun c =>
    State.viewsAgree_of hs rfl (PowerStage.judge_moved (ps := { s.ps with updateAge := some 0 })).seen rfl rfl rfl .rfl
  unfold State.judgeImage
  split
  · rw [State.enterActive_eq]
    split
    · exact State.queueReport_viewsAgree _ _ _ (hstarted _)
    · exact hstarted _
  · exact hs

/-! ## The plug (R112, R135) -/

theorem execPlugClosed_viewsAgree (hl : s.linkOk) (hs : s.viewsAgree) (h : execPlugClosed s = .next t) : t.viewsAgree := by
  obtain ⟨hstate, hlink, hmeterView, -, hworking, haccept, hmeter, hfault, hlost⟩ := id hs
  cases h
  split
  · next hdue =>
      obtain ⟨-, -, hopen⟩ := PlugLink.settlesTo_iff.mp hdue
      have hunplugged : s.pl.link = .unplugged := hl.1.1.mpr hopen
      rw [hunplugged] at hworking hlost
      refine State.viewsAgree_of (s := (s.withPl
          { s.pl.sendReset with plugClosed := true, settle := .stopped, link := .resetting, failures := 0, misses := 0 }).withPs
          { s.ps with plugDetected := true }) ⟨hstate, hlink, hmeterView, rfl, hworking, haccept, hmeter, hfault, hlost⟩ (by simp) ?_ (by simp)
        (by simp) (by simp) (by simp)
      exact PowerStage.judge_moved.seen
  · exact hs

/-- The walker at a removal: no van, the causes of other blocks but link LOST kept (R92). -/
theorem State.walkerPlugRemoved_spec (s : State) : s.walkerPlugRemoved.pw.van = none ∧ s.walkerPlugRemoved.pw.holds.linkLost = false
    ∧ s.walkerPlugRemoved.pw.holds.meterLost = s.pw.holds.meterLost
    ∧ s.walkerPlugRemoved.pw.holds.contactorFault = s.pw.holds.contactorFault := by
  unfold State.walkerPlugRemoved
  dsimp only
  split <;> simp [Walker.clearPlans]

theorem State.powerPlugRemoved_viewsAgree (hs : s.viewsTold) (hunplugged : s.pl.link = .unplugged) (hopen : s.pl.plugClosed = false)
    (haccept : s.ps.acceptLimit = s.pl.accept) (hmeter : s.pw.holds.meterLost = s.ps.meterLost)
    (hfault : s.pw.holds.contactorFault = (s.ps.closeLatch || s.ps.weldLatch)) (hlost : s.pw.holds.linkLost = false) :
    s.powerPlugRemoved.viewsAgree := by
  have hview : (s.linkView false false).viewsAgree :=
    State.linkView_viewsAgree hs hopen.symm (by simp [hunplugged]) haccept hmeter hfault (by simp [hunplugged, hlost])
  obtain ⟨hstate, hlink, hmeterView, hplug, hworking, haccept, hmeter, hfault, hlost⟩ := hview
  unfold State.powerPlugRemoved
  dsimp only
  split
  · next hweld =>
      refine ⟨hstate, hlink, hmeterView, hplug, hworking, haccept, hmeter, ?_, hlost⟩
      replace hweld : (s.linkView false false).ps.weldLatch = true := hweld
      rw [State.withPs_pw, hfault, hweld]
      simp [PowerStage.clearCloseFault, hweld]
  · next hweld =>
      replace hweld : (s.linkView false false).ps.weldLatch = false := by simpa [PowerStage.clearCloseFault] using hweld
      exact State.setHolds_viewsAgree hplug hworking haccept hmeter (by simp [PowerStage.clearCloseFault, hweld]) hlost

theorem execPlugOpen_viewsAgree (hs : s.viewsAgree) (h : execPlugOpen s = .next t) : t.viewsAgree := by
  obtain ⟨-, -, -, -, -, -, hmeter, hfault, -⟩ := id hs
  cases h
  split
  · set opened := State.handAccept 0 (s.withPl s.pl.unplug) with hopened
    obtain ⟨-, hlost, kmeter, kfault⟩ := opened.walkerPlugRemoved_spec
    obtain ⟨-, -, klimit, kmeterLost, kclose, kweld, -⟩ := (opened.walkerPlugRemoved_told rfl).kept
    refine State.powerPlugRemoved_viewsAgree opened.walkerPlugRemoved_viewsTold ?_ ?_ ?_ ?_ ?_ hlost
    · rw [State.walkerPlugRemoved_pl]; rfl
    · rw [State.walkerPlugRemoved_pl]; rfl
    · rw [klimit, State.walkerPlugRemoved_pl]; rfl
    · rw [kmeter, kmeterLost]; exact hmeter
    · rw [kfault, kclose, kweld]; exact hfault
  · exact hs

/-! ## LOST (R91, R123) -/

theorem State.linkLostReport_spec (s : State) :
    s.linkLostReport.pw.holds.linkLost = (s.pw.holds.linkLost || s.pw.van.isSome)
      ∧ s.linkLostReport.pw.holds.meterLost = s.pw.holds.meterLost
      ∧ s.linkLostReport.pw.holds.contactorFault = s.pw.holds.contactorFault ∧ s.linkLostReport.pw.van = s.pw.van := by
  cases hvan : s.pw.van.isSome with
  | false => rw [s.linkLostReport_of_noVan hvan]; simp
  | true => rw [s.linkLostReport_pw_of_van hvan]; simp [Walker.linkLost, Walker.halted]

theorem State.enterLost_viewsAgree {pl : PlugLink} (hs : s.viewsAgree) (hplug : pl.plugClosed = s.pl.plugClosed := by rfl) :
    (s.withPl pl).enterLost.viewsAgree := by
  obtain ⟨hstate, hlink, hmeterView, hdetected, -, -, hmeter, hfault, hlost⟩ := hs
  have hdropped : (s.withPl pl).linkDropped.viewsTold := ⟨hstate, hlink, hmeterView⟩
  obtain ⟨kdetected, -, klimit, kmeterLost, kclose, kweld, -⟩ := ((s.withPl pl).linkDropped.linkLostReport_told rfl).kept
  obtain ⟨clost, cmeter, cfault, cvan⟩ := (s.withPl pl).linkDropped.linkLostReport_spec
  rw [State.enterLost_eq]
  refine State.queueReport_viewsAgree _ _ _ (State.linkView_viewsAgree (State.linkLostReport_viewsTold hdropped) ?_ ?_ ?_ ?_ ?_ ?_)
  · rw [kdetected, State.linkLostReport_pl]
    exact hdetected.trans hplug.symm
  · rw [State.linkLostReport_pl]; rfl
  · rw [klimit, State.linkLostReport_pl]; rfl
  · rw [cmeter, kmeterLost]; exact hmeter
  · rw [cfault, kclose, kweld]; exact hfault
  · have hbefore : (s.withPl pl).linkDropped.pw = s.pw := (s.withPl pl).linkDropped_pw
    rw [clost, cvan, State.linkLostReport_pl, State.linkDropped_pl, hbefore, hlost]
    cases s.pw.van.isSome <;> simp [PlugLink.lose]

/-! ## Link resets and replies (R114 to R124) -/

theorem State.resetMissed_viewsAgree (hs : s.viewsAgree) : s.resetMissed.viewsAgree := by
  unfold State.resetMissed
  dsimp only
  split
  · exact State.withPl_viewsAgree_of_link hs
  · exact State.enterLost_viewsAgree hs

theorem execLinkResetResult_viewsAgree {fellAt : Option Nat} {highAgain : Bool} (hs : s.viewsAgree)
    (h : execLinkResetResult fellAt highAgain s = .next t) : t.viewsAgree := by
  cases h
  split
  · split
    · next hlink =>
        split
        · exact State.withPl_viewsAgree hs (by rw [hlink]; rfl) (by simp [hlink])
        · exact State.resetMissed_viewsAgree hs
    · (repeat' split)
      · exact State.withPl_viewsAgree_of_link hs
      · exact State.withPl_viewsAgree_of_link hs
      · exact hs
  · exact hs

theorem State.requestFailed_viewsAgree (c : LinkCommand) (hs : s.viewsAgree) (hlink : s.pl.link = .exchange) :
    (s.requestFailed c).viewsAgree := by
  unfold State.requestFailed
  dsimp only
  split
  · cases c <;> exact State.withPl_viewsAgree hs (by rw [hlink]; rfl) (by simp [hlink])
  · cases c <;> exact State.enterLost_viewsAgree hs

theorem State.identFailed_viewsAgree (hs : s.viewsAgree) (hlink : s.pl.link = .identifying) : s.identFailed.viewsAgree := by
  unfold State.identFailed
  dsimp only
  split
  · exact State.withPl_viewsAgree hs (by rw [hlink]; rfl) (by simp [hlink])
  · exact State.enterLost_viewsAgree hs

/-- A link that works again, once the walker has been told of the van: link LOST is no longer a cause (R91, R124, R135). -/
theorem State.linkWorks_viewsAgree {pl : PlugLink} (hs : s.viewsAgree) (htold : PowerStage.Told s.active s.ps u.ps) (hviews : u.viewsTold)
    (hasked : pl.Asked u.pl) (hready : pl.link = .ready) (hcauses : u.pw.holds.linkLost = false
      ∧ u.pw.holds.meterLost = s.pw.holds.meterLost ∧ u.pw.holds.contactorFault = s.pw.holds.contactorFault)
    (hplug : pl.plugClosed = s.pl.plugClosed := by rfl) (haccept : pl.accept = s.pl.accept := by rfl) :
    (u.linkView u.ps.plugDetected true).viewsAgree := by
  obtain ⟨-, -, -, hdetected, -, hlimit, hmeter, hfault, -⟩ := hs
  obtain ⟨kdetected, -, klimit, kmeterLost, kclose, kweld, -⟩ := htold.kept
  obtain ⟨clost, cmeter, cfault⟩ := hcauses
  refine State.linkView_viewsAgree hviews ?_ ?_ ?_ ?_ ?_ ?_
  · rw [kdetected, hasked.plugClosed, hplug, hdetected]
  · rw [hasked.link, hready]; rfl
  · rw [klimit, hasked.accept, haccept, hlimit]
  · rw [cmeter, kmeterLost, hmeter]
  · rw [cfault, kclose, kweld, hfault]
  · simp [clost, hasked.link, hready]

theorem State.freshArrival_holds (tag : VanTag) (capacity : Nat) (s : State) :
    (s.freshArrival tag capacity).pw.holds = { s.pw.holds with linkLost := false } := by simp [State.freshArrival]

theorem State.vanIdentified_causes (tag : VanTag) (capacity : Nat) (s : State) (hlost : s.pw.holds.linkLost = false) :
    (s.vanIdentified tag capacity).pw.holds.linkLost = false
      ∧ (s.vanIdentified tag capacity).pw.holds.meterLost = s.pw.holds.meterLost
      ∧ (s.vanIdentified tag capacity).pw.holds.contactorFault = s.pw.holds.contactorFault := by
  unfold State.vanIdentified
  split
  · simp [State.freshArrival_holds]
  · simp [hlost]

theorem State.differentVan_causes (tag : VanTag) (capacity : Nat) (s : State) :
    (s.differentVan tag capacity).pw.holds.linkLost = false
      ∧ (s.differentVan tag capacity).pw.holds.meterLost = s.pw.holds.meterLost
      ∧ (s.differentVan tag capacity).pw.holds.contactorFault = s.pw.holds.contactorFault := by
  unfold State.differentVan
  split <;> simp [State.freshArrival_holds, Walker.clearPlans]

theorem State.sameVan_causes (s : State) : s.sameVan.pw.holds.linkLost = false
    ∧ s.sameVan.pw.holds.meterLost = s.pw.holds.meterLost ∧ s.sameVan.pw.holds.contactorFault = s.pw.holds.contactorFault := by
  obtain ⟨clink, cmeter, cfault, -⟩ := s.placeStatus.setHolds_pw_holds { s.pw.holds with linkLost := false }
  exact ⟨clink, cmeter, cfault⟩

theorem State.identValid_viewsAgree (v : VanIdentity) (hs : s.viewsAgree) (hlink : s.pl.link = .identifying) :
    (s.identValid v).viewsAgree := by
  have hlost : s.pw.holds.linkLost = false := by
    obtain ⟨-, -, -, -, -, -, -, -, hlost⟩ := hs
    simpa [hlink] using hlost
  have htold : s.viewsTold := State.viewsAgree_told hs
  have hviews : (s.withPl (s.pl.identified v)).viewsTold := htold
  exact State.linkWorks_viewsAgree (pl := s.pl.identified v) hs (State.vanIdentified_told (s.withPl (s.pl.identified v)) v.tag v.capacity rfl)
    (State.vanIdentified_viewsTold _ _ hviews) (State.vanIdentified_asked (s.withPl (s.pl.identified v)) v.tag v.capacity) rfl
    (State.vanIdentified_causes v.tag v.capacity (s.withPl (s.pl.identified v)) hlost)

theorem State.recovered_viewsAgree (v : VanIdentity) (hs : s.viewsAgree) : (s.recovered v).viewsAgree := by
  unfold State.recovered
  dsimp only
  split
  · exact State.linkWorks_viewsAgree (pl := s.pl.identified v) hs (State.sameVan_told (s.withPl (s.pl.identified v)) rfl)
      (State.setHolds_viewsTold _ _) (State.sameVan_asked (s.withPl (s.pl.identified v))) rfl (s.withPl (s.pl.identified v)).sameVan_causes
  · exact State.linkWorks_viewsAgree (pl := (s.pl.identified v).cleared) hs
      (State.differentVan_told (s.withPl (s.pl.identified v).cleared) v.tag v.capacity rfl) (State.differentVan_viewsTold _ _ _)
      (State.differentVan_asked (s.withPl (s.pl.identified v).cleared) v.tag v.capacity) rfl
      ((s.withPl (s.pl.identified v).cleared).differentVan_causes v.tag v.capacity)

theorem execIdentReply_viewsAgree {r : LinkReply} (hl : s.linkOk) (hs : s.viewsAgree) (h : execIdentReply r s = .next t) :
    t.viewsAgree := by
  cases h
  split
  · next busy bad hreading =>
      have hlink := PlugLink.ident_link hl.1 (PlugLink.reading_iff.mp hreading).2 rfl
      split
      · split
        · exact State.withPl_viewsAgree_of_link hs
        · exact State.withPl_viewsAgree_of_link hs
        · refine State.settleLink_viewsAgree ?_
          split
          · exact State.recovered_viewsAgree _ hs
          · next hlost => exact State.identValid_viewsAgree _ hs (hlink.resolve_right hlost)
        · split
          · exact State.withPl_viewsAgree_of_link hs
          · next hlost => exact State.identFailed_viewsAgree hs (hlink.resolve_right hlost)
      · exact hs
  · exact hs

theorem State.statusValid_viewsAgree (st : LinkStatus) (hs : s.viewsAgree) (hlink : s.pl.link = .exchange) :
    (s.statusValid st).viewsAgree := by
  have hhanded : (State.handAccept (effectiveAccept s.pl.identity st) (s.withPl { s.pl.complete with status := some st })).viewsAgree := by
    obtain ⟨hstate, hlinkView, hmeterView, hplug, hworking, -, hmeter, hfault, hlost⟩ := hs
    rw [hlink] at hworking hlost
    exact ⟨hstate, hlinkView, hmeterView, hplug, hworking, rfl, hmeter, hfault, hlost⟩
  exact State.asked_viewsAgree ((State.takeStatus_walked _ _ _).viewsAgree hhanded) (PlugLink.checkHeaters_asked st _)

theorem execStatusReply_viewsAgree {r : LinkReply} (hl : s.linkOk) (hs : s.viewsAgree) (h : execStatusReply r s = .next t) :
    t.viewsAgree := by
  cases h
  split
  · next busy bad hreading =>
      have hlink := PlugLink.request_link hl.1 (PlugLink.reading_iff.mp hreading).2 (by simp)
      split
      · split
        · exact State.withPl_viewsAgree_of_link hs
        · exact State.withPl_viewsAgree_of_link hs
        · exact State.settleLink_viewsAgree (State.statusValid_viewsAgree _ hs hlink)
        · exact State.requestFailed_viewsAgree _ hs hlink
      · exact hs
  · exact hs

theorem execHeaterReply_viewsAgree {r : LinkReply} (hl : s.linkOk) (hs : s.viewsAgree) (h : execHeaterReply r s = .next t) :
    t.viewsAgree := by
  cases h
  split
  · next heaters busy bad hreading =>
      have hlink := PlugLink.request_link hl.1 (PlugLink.reading_iff.mp hreading).2 (by simp)
      split
      · split
        · exact State.withPl_viewsAgree_of_link hs
        · exact State.withPl_viewsAgree_of_link hs
        · exact State.settleLink_viewsAgree (State.withPl_viewsAgree hs (by rw [hlink]; rfl) (by simp [hlink, PlugLink.complete]))
        · have hcomplete : (s.withPl s.pl.complete).viewsAgree :=
            State.withPl_viewsAgree hs (by rw [hlink]; rfl) (by simp [hlink, PlugLink.complete])
          exact State.settleLink_viewsAgree ((State.heaterRefused_walked heaters _).viewsAgree hcomplete)
        · exact State.requestFailed_viewsAgree _ hs hlink
      · exact hs
  · exact hs

theorem execPollTimerExpiry_viewsAgree (hs : s.viewsAgree) (h : execPollTimerExpiry s = .next t) : t.viewsAgree := by
  have hplaced : s.pl.Asked s.pl.placeStatus := .status (.refl _)
  cases h
  split
  · exact State.settleLink_viewsAgree (State.withPl_viewsAgree_of_link hs hplaced.link hplaced.plugClosed hplaced.accept)
  · exact hs

/-! ## Every command -/

theorem exec_viewsAgree {c : Instr} (hl : s.linkOk) (hs : s.viewsAgree) (h : exec c s = .next t) : t.viewsAgree := by
  cases c
  case powerUp => cases h; exact powerOn_viewsAgree _ _ _
  case brownOut => cases h; exact powerOn_viewsAgree _ _ _
  case imageReadComplete =>
    cases h
    split
    · exact State.judgeImage_viewsAgree _ _ hs
    · exact hs
  case siteReceived => exact execSiteReceived_viewsAgree hs h
  case claimPeriodExpiry => exact execClaimPeriodExpiry_viewsAgree hs h
  case plugClosed => exact execPlugClosed_viewsAgree hl hs h
  case plugOpen => exact execPlugOpen_viewsAgree hs h
  case linkResetResult => exact execLinkResetResult_viewsAgree hs h
  case identReply => exact execIdentReply_viewsAgree hl hs h
  case statusReply => exact execStatusReply_viewsAgree hl hs h
  case heaterReply => exact execHeaterReply_viewsAgree hl hs h
  case pollTimerExpiry => exact execPollTimerExpiry_viewsAgree hs h
  case servicePauseEnd =>
    cases h
    split
    · exact State.settleLink_viewsAgree (State.withPl_viewsAgree_of_link hs)
    · exact hs
  case plugContactChange | resetRetryWaitExpiry | recoveryTimerExpiry =>
    cases h
    split
    · exact State.withPl_viewsAgree_of_link hs
    · exact hs
  case busyRepollWaitExpiry =>
    cases h
    split
    · split
      · exact State.withPl_viewsAgree_of_link hs
      · exact hs
    · exact hs
  case senseReadsClosed => exact execSenseReadsClosed_viewsAgree hs h
  case senseReadsOpen => exact execSenseReadsOpen_viewsAgree hs h
  case closeSenseTimerExpiry =>
    cases h
    split
    · exact State.failedClose_viewsAgree hs
    · exact hs
  case openSenseTimerExpiry =>
    cases h
    split
    · exact State.setWeldLatch_viewsAgree hs
    · exact hs
  case retryWaitExpiry =>
    cases h
    split
    · exact State.withPs_viewsAgree hs (PowerStage.judge_moved (ps := { s.ps with retryWait := .stopped })).seen
    · exact hs
  case drawWaitExpiry =>
    cases h
    split
    · exact State.withPs_viewsAgree hs PowerStage.beginSensePhase_moved.seen
    · exact hs
  case drawUpdate => exact execDrawUpdate_viewsAgree hs h
  case meterLost => exact execMeterLost_viewsAgree hs h
  all_goals exact (exec_walksTo rfl h).viewsAgree hs

end

/-- Settles O58, command by command: which link state a reply finds is the link's invariant. -/
theorem viewsOfEachOtherKept : Obligations.ViewsOfEachOtherKept := by
  intro s t hl hs h
  have hboth : t.linkOk ∧ t.viewsAgree :=
    step_keeps (P := fun s => s.linkOk ∧ s.viewsAgree) (fun _ _ hs => hs)
      (fun _ _ _ hs h => ⟨exec_linkOk hs.1 h, exec_viewsAgree hs.1 hs.2 h⟩) s t ⟨hl, hs⟩ h
  exact hboth.2

end Sys2Proof.Machine
end

section
/-! PROOFS. Outside ACTIVE every block but the Start-up Loader and the Line Interface rests at its power-on values, and only the supply events and the
image read change the configuration (spec sections 9.3 to 9.5; R146 to R150). -/

namespace Sys2Proof.Machine

section
variable {s t : State}

/-- The blocks at their power-on values, the weld check and the sense reading apart (R25, R51, R52, R85, R110, R129, R150). -/
structure State.AtRest (s : State) : Prop where
  cfg : s.cfg = .none
  dc : s.dc = .reset
  pv : s.pv = .reset
  sc : s.sc = .reset
  pl : s.pl = .reset
  pw : s.pw = .fresh s.ps.weldLatch
  ps : s.ps = .fresh s.ps.weldLatch s.ps.senseClosed

theorem State.atRest_iff : s.AtRest ↔ s.cfg = .none ∧ s.dc = .reset ∧ s.pv = .reset ∧ s.sc = .reset ∧ s.pl = .reset
    ∧ s.pw = .fresh s.ps.weldLatch ∧ s.ps = .fresh s.ps.weldLatch s.ps.senseClosed :=
  ⟨fun ⟨hcfg, hdc, hpv, hsc, hpl, hpw, hps⟩ => ⟨hcfg, hdc, hpv, hsc, hpl, hpw, hps⟩,
    fun ⟨hcfg, hdc, hpv, hsc, hpl, hpw, hps⟩ => ⟨hcfg, hdc, hpv, hsc, hpl, hpw, hps⟩⟩

theorem State.startOk_iff :
    s.startOk ↔ (s.sl.config = .active → imageValid s.cfg = true) ∧ (s.sl.config ≠ .active → s.AtRest) := by
  rw [State.atRest_iff]
  rfl

theorem State.atRest_of_eq (hs : s.AtRest) (hcfg : t.cfg = s.cfg := by simp) (hdc : t.dc = s.dc := by simp) (hpv : t.pv = s.pv := by simp)
    (hsc : t.sc = s.sc := by simp) (hpl : t.pl = s.pl := by simp) (hpw : t.pw = s.pw := by simp) (hps : t.ps = s.ps := by simp) :
    t.AtRest := by
  obtain ⟨kcfg, kdc, kpv, ksc, kpl, kpw, kps⟩ := hs
  exact ⟨hcfg.trans kcfg, hdc.trans kdc, hpv.trans kpv, hsc.trans ksc, hpl.trans kpl, by rwa [hpw, hps], by rwa [hps]⟩

/-- An accepted frame is counted and, outside ACTIVE, handed to no block (R14, R150). -/
theorem State.acceptFrame_atRest (check : Byte) (hs : s.AtRest) : (s.acceptFrame check).AtRest := State.atRest_of_eq hs

theorem State.frame_atRest {kind : Nat} {check : Byte} {handed : State} (hidle : s.active = false) (hs : s.AtRest) :
    State.AtRest (if s.accepts kind check then if s.active then handed else s.acceptFrame check else s) := by
  rw [if_neg (by simp [hidle] : ¬ s.active = true)]
  split
  · exact State.acceptFrame_atRest check hs
  · exact hs

/-- A link at rest has no exchange to begin (R126). -/
theorem State.settleLink_atRest (hs : s.AtRest) : s.settleLink.AtRest := by
  have hpl := hs.pl
  refine State.atRest_of_eq hs rfl rfl rfl rfl ?_
  rw [State.settleLink, hpl]
  rfl

theorem execEnergyPulse_atRest (hs : s.AtRest) (h : execEnergyPulse s = .next t) : t.AtRest := by
  have hpw := hs.pw
  have hnone : s.pw.current = none := by rw [hpw]; rfl
  cases h
  rw [State.countPulse, hnone]
  exact State.settleLink_atRest hs

/-- The sense as read is the one reading that changes outside ACTIVE (R140). -/
theorem State.sense_atRest (closed : Bool) (hs : s.AtRest) : (s.withPs { s.ps with senseClosed := closed }).AtRest := by
  obtain ⟨hcfg, hdc, hpv, hsc, hpl, hpw, hps⟩ := hs
  refine ⟨hcfg, hdc, hpv, hsc, hpl, hpw, ?_⟩
  rw [State.withPs_ps, hps]
  rfl

theorem PowerStage.fresh_contactor (weldLatch senseClosed : Bool) :
    (PowerStage.fresh weldLatch senseClosed).contactor = if weldLatch then .weldFault else .isOpen := rfl

theorem State.atRest_contactor (hs : s.AtRest) : s.ps.contactor = .weldFault ∨ s.ps.contactor = .isOpen := by
  rw [hs.ps, PowerStage.fresh_contactor]
  cases s.ps.weldLatch <;> simp

theorem execSenseReadsClosed_atRest (hs : s.AtRest) (h : execSenseReadsClosed s = .next t) : t.AtRest := by
  cases h
  dsimp only
  split
  · next hclosing => rcases State.atRest_contactor hs with hcontactor | hcontactor <;> simp [hcontactor] at hclosing
  · exact State.sense_atRest true hs

theorem execSenseReadsOpen_atRest (hs : s.AtRest) (h : execSenseReadsOpen s = .next t) : t.AtRest := by
  have hcontactor := State.atRest_contactor hs
  cases h
  dsimp only
  split
  · next hclosed => simp [hclosed] at hcontactor
  · next hopening => simp [hopening] at hcontactor
  · exact State.sense_atRest false hs

/-! ## Every command but the supply events and the image read -/

/-- The supply events and the image read. -/
def setsUp : Instr → Bool
  | .powerUp _ | .brownOut _ | .imageReadComplete _ _ => true
  | _ => false

/-- Outside ACTIVE a command moves the line and the sense reading, and finds no timer running and no exchange in flight elsewhere. -/
theorem exec_atRest {c : Instr} (hc : setsUp c = false) (hidle : s.active = false) (hs : s.AtRest) (h : exec c s = .next t) : t.AtRest := by
  obtain ⟨-, hdc, hpv, hsc, hpl, hpw, hps⟩ := id hs
  cases c
  case powerUp | brownOut | imageReadComplete => simp [setsUp] at hc
  case claimReceived | siteReceived | planReceived | cancelReceived =>
    cases h
    exact State.frame_atRest hidle hs
  case energyPulse => exact execEnergyPulse_atRest hs h
  case senseReadsClosed => exact execSenseReadsClosed_atRest hs h
  case senseReadsOpen => exact execSenseReadsOpen_atRest hs h
  case oscillatorSecond | anchorLapse =>
    cases h
    rw [if_neg (by simp [hdc, DepotClock.isSet, DepotClock.reset])]
    exact hs
  case conflictReportGuardExpiry | tallyExpiry =>
    cases h
    rw [if_neg (by simp [hpv, PeerView.reset])]
    exact hs
  case claimPeriodExpiry =>
    cases h
    rw [if_neg (by simp [hsc, ShareComputer.reset])]
    exact hs
  case defaultPlanTimerExpiry =>
    cases h
    rw [if_neg (by simp [hpw, Walker.fresh, Walker.reset])]
    exact hs
  case plugClosed | plugOpen =>
    cases h
    rw [if_neg (by simp [hpl, PlugLink.settlesTo, PlugLink.reset])]
    exact hs
  case linkResetResult | resetRetryWaitExpiry | servicePauseEnd | recoveryTimerExpiry | pollTimerExpiry =>
    cases h
    rw [if_neg (by simp [hpl, PlugLink.reset])]
    exact hs
  case identReply | statusReply | heaterReply =>
    have hreading : s.pl.reading = none := by rw [hpl]; rfl
    cases h
    rw [hreading]
    exact hs
  case busyRepollWaitExpiry =>
    have hexchange : s.pl.exchange = none := by rw [hpl]; rfl
    cases h
    rw [hexchange]
    exact hs
  case closeSenseTimerExpiry | openSenseTimerExpiry | retryWaitExpiry | drawWaitExpiry =>
    cases h
    rw [if_neg (by rw [hps]; simp [PowerStage.fresh, PowerStage.reset])]
    exact hs
  case plugContactChange | drawUpdate | meterLost =>
    cases h
    rw [if_neg (by simp [hidle])]
    exact hs
  all_goals
    cases h
    (repeat' split) <;> exact State.atRest_of_eq hs

/-! ## The configuration -/

/-- The configuration state, the station id and the image's values are the same in two states. -/
def State.keepsConfig (s t : State) : Prop := t.sl.config = s.sl.config ∧ t.sl.stationId = s.sl.stationId ∧ t.cfg = s.cfg

theorem exec_keepsConfig {c : Instr} (hc : setsUp c = false) (h : exec c s = .next t) : s.keepsConfig t := by
  cases c
  case powerUp | brownOut | imageReadComplete => simp [setsUp] at hc
  case claimReceived | conflictReportGuardExpiry | tallyExpiry | claimPeriodExpiry =>
    cases h
    dsimp only [State.keepsConfig]
    (repeat' split) <;> simp
  all_goals
    obtain ⟨hconfig, hid, hcfg, -⟩ := exec_keepsView rfl h
    exact ⟨hconfig, hid, hcfg⟩

theorem exec_startOk_of_kept {c : Instr} (hc : setsUp c = false) (hs : s.startOk) (h : exec c s = .next t) : t.startOk := by
  obtain ⟨hvalid, hrest⟩ := State.startOk_iff.mp hs
  obtain ⟨hconfig, -, hcfg⟩ := exec_keepsConfig hc h
  refine State.startOk_iff.mpr ⟨fun hactive => ?_, fun hidle => ?_⟩
  · rw [hcfg]
    exact hvalid (hconfig ▸ hactive)
  · rw [hconfig] at hidle
    exact exec_atRest hc (by simpa [State.active] using hidle) (hrest hidle) h

theorem powerOn_startOk (brownOut senseClosed : Bool) (waiting : List Instr) : (powerOn brownOut senseClosed waiting).startOk :=
  ⟨fun hactive => ConfigState.noConfusion hactive, fun _ => ⟨rfl, rfl, rfl, rfl, rfl, rfl, rfl⟩⟩

theorem State.judgeImage_startOk (image : List Byte) (contactClosed : Bool) (hs : s.AtRest) : (s.judgeImage image contactClosed).startOk := by
  unfold State.judgeImage
  split
  · next hvalid =>
      obtain ⟨-, hcfg, -⟩ := s.enterActive_blocks (readImage image) contactClosed
      exact ⟨fun _ => by rwa [hcfg], fun hidle => absurd (s.enterActive_config _ _) hidle⟩
  · exact State.startOk_iff.mpr ⟨fun hactive => ConfigState.noConfusion hactive, fun _ => State.atRest_of_eq hs rfl rfl rfl rfl rfl rfl rfl⟩

theorem execImageReadComplete_startOk {bits : List Bool} {contactClosed : Bool} (hs : s.startOk)
    (h : execImageReadComplete bits contactClosed s = .next t) : t.startOk := by
  cases h
  split
  · next hdue =>
      have hloading : s.sl.config = .loading := by simpa [State.loading] using hdue.1
      exact State.judgeImage_startOk _ _ ((State.startOk_iff.mp hs).2 (by simp [hloading]))
  · exact hs

theorem execImageReadComplete_of_read {bits : List Bool} {contactClosed : Bool} (hread : s.sl.config ≠ .loading)
    (h : execImageReadComplete bits contactClosed s = .next t) : t = s := by
  cases h
  exact if_neg (by simp [State.loading, hread])

end

/-- Settles O53: the supply events and the image read set the configuration up, and every other command leaves it and, outside ACTIVE, the
blocks at rest. -/
theorem startInvariantKept : Obligations.StartInvariantKept := by
  intro c s t hs h
  cases hc : setsUp c with
  | false =>
      obtain hkept : s.keepsConfig t := exec_keepsConfig hc h
      exact ⟨exec_startOk_of_kept hc hs h, fun _ _ => hkept⟩
  | true =>
      cases c
      case powerUp senseClosed =>
        cases h
        exact ⟨powerOn_startOk _ _ _, fun _ hother => absurd rfl (hother senseClosed).1⟩
      case brownOut senseClosed =>
        cases h
        exact ⟨powerOn_startOk _ _ _, fun _ hother => absurd rfl (hother senseClosed).2⟩
      case imageReadComplete =>
        refine ⟨execImageReadComplete_startOk hs h, fun hread _ => ?_⟩
        rw [execImageReadComplete_of_read hread h]
        exact ⟨rfl, rfl, rfl⟩
      all_goals simp [setsUp] at hc

end Sys2Proof.Machine
end

section
/-! PROOFS. The Depot Clock's ranges and source, and the Share Computer's counts, after every command (spec sections 2.1 to 2.3, 4.3, 4.4, 4.6;
R25, R26, R32, R58, R62, R68). -/

namespace Sys2Proof.Machine

section
variable {s t u : State} {dc next : DepotClock} {sc : ShareComputer}

/-! ## The Depot Clock -/

/-- A clock that takes the place of another: in range where that was, and not UNSET where that was not (R25, R26). -/
structure DepotClock.Follows (dc next : DepotClock) : Prop where
  timeOk : dc.timeOk → next.timeOk
  set : dc.source ≠ .unset → next.source ≠ .unset

theorem DepotClock.Follows.refl (dc : DepotClock) : dc.Follows dc := ⟨id, id⟩

theorem DepotClock.follows_of_eq (h : next = dc) : dc.Follows next := h ▸ .refl dc

theorem DepotClock.afterAnchor_follows (time : Nat) (dc : DepotClock) : dc.Follows (dc.afterAnchor time) :=
  ⟨DepotClock.afterAnchor_timeOk time,
    fun h => (DepotClock.isSet_eq_true_iff _).mp (DepotClock.afterAnchor_isSet time ((DepotClock.isSet_eq_true_iff _).mpr h))⟩

theorem DepotClock.afterPeerTime_follows (time : Nat) (dc : DepotClock) : dc.Follows (dc.afterPeerTime time) :=
  ⟨DepotClock.afterPeerTime_timeOk time,
    fun h => (DepotClock.isSet_eq_true_iff _).mp (DepotClock.afterPeerTime_isSet time ((DepotClock.isSet_eq_true_iff _).mpr h))⟩

theorem DepotClock.agedBySecond_le (h : dc.anchorAge ≤ 600) : dc.agedBySecond ≤ 600 := by
  unfold DepotClock.agedBySecond raiseTo
  (repeat' split) <;> omega

/-- A second later, round the day (R26). -/
theorem DepotClock.second_follows (h : dc.isSet = true) :
    dc.Follows ⟨(dc.time + 1) % secondsPerDay, 0, dc.source, dc.agedBySecond⟩ := by
  refine ⟨fun hok => ?_, id⟩
  obtain ⟨-, hage, -⟩ := hok
  exact ⟨Nat.mod_lt _ (by decide), DepotClock.agedBySecond_le hage, fun hunset => absurd hunset ((DepotClock.isSet_eq_true_iff _).mp h)⟩

theorem DepotClock.lapse_follows (dc : DepotClock) : dc.Follows { dc with source := .peer } := by
  refine ⟨fun hok => ?_, fun _ => by simp⟩
  obtain ⟨htime, hage, -⟩ := hok
  exact ⟨htime, hage, fun hunset => ClockSource.noConfusion hunset⟩

/-- The commands that move the clock or restart it. -/
def movesClock : Instr → Bool
  | .powerUp _ | .brownOut _ | .claimReceived _ | .siteReceived _ | .planReceived _ | .oscillatorSecond | .anchorLapse => true
  | _ => false

theorem exec_dc {c : Instr} (hc : movesClock c = false) (h : exec c s = .next t) : t.dc = s.dc := by
  cases c
  case powerUp | brownOut | claimReceived | siteReceived | planReceived | oscillatorSecond | anchorLapse => simp [movesClock] at hc
  case imageReadComplete =>
    cases h
    unfold State.judgeImage
    (repeat' split)
    · rw [State.enterActive_eq]
      split <;> simp [State.started]
    · rfl
    · rfl
  case senseReadsClosed =>
    cases h
    dsimp only
    split <;> rfl
  all_goals
    cases h
    (repeat' split) <;> simp

theorem State.handSite_dc (f : RxSite) (s : State) : (s.handSite f).dc = s.dc.afterAnchor f.time := by
  unfold State.handSite
  dsimp only
  split <;> simp

/-- No command but the supply events sets the clock back (R25). -/
theorem exec_clock {c : Instr} (hc : ∀ b, c ≠ .powerUp b ∧ c ≠ .brownOut b) (h : exec c s = .next t) : s.dc.Follows t.dc := by
  cases c
  case powerUp senseClosed => exact absurd rfl (hc senseClosed).1
  case brownOut senseClosed => exact absurd rfl (hc senseClosed).2
  case claimReceived =>
    cases h
    dsimp only
    split
    · split
      · simpa using s.dc.afterPeerTime_follows _
      · exact .refl _
    · exact .refl _
  case siteReceived =>
    cases h
    dsimp only
    split
    · split
      · simpa [State.handSite_dc] using s.dc.afterAnchor_follows _
      · exact .refl _
    · exact .refl _
  case planReceived =>
    cases h
    dsimp only
    split
    · split
      · simpa using s.dc.afterAnchor_follows _
      · exact .refl _
    · exact .refl _
  case oscillatorSecond =>
    cases h
    split
    · next hset => simpa using DepotClock.second_follows hset
    · exact .refl _
  case anchorLapse =>
    cases h
    split
    · exact s.dc.lapse_follows
    · exact .refl _
  all_goals exact DepotClock.follows_of_eq (exec_dc rfl h)

theorem powerOn_timeOk (brownOut senseClosed : Bool) (waiting : List Instr) : (powerOn brownOut senseClosed waiting).dc.timeOk :=
  ⟨by simp [powerOn, State.reset, DepotClock.reset], Nat.zero_le _, fun _ => rfl⟩

theorem exec_timeOk {c : Instr} (hs : s.dc.timeOk) (h : exec c s = .next t) : t.dc.timeOk := by
  cases c
  case powerUp => cases h; exact powerOn_timeOk _ _ _
  case brownOut => cases h; exact powerOn_timeOk _ _ _
  all_goals exact (exec_clock (by simp) h).timeOk hs

/-! ## The Share Computer -/

/-- The commands that write the Share Computer. -/
def writesShare : Instr → Bool
  | .powerUp _ | .brownOut _ | .imageReadComplete _ _ | .claimReceived _ | .siteReceived _ | .claimPeriodExpiry => true
  | _ => false

theorem exec_sc {c : Instr} (hc : writesShare c = false) (h : exec c s = .next t) : t.sc = s.sc := by
  cases c
  case powerUp | brownOut | imageReadComplete | claimReceived | siteReceived | claimPeriodExpiry => simp [writesShare] at hc
  case senseReadsClosed =>
    cases h
    dsimp only
    split <;> rfl
  all_goals
    cases h
    (repeat' split) <;> simp

/-- The conflict hold runs from 15 (R38, R68). -/
theorem ShareComputer.conflict_countsOk (h : sc.countsOk) : ShareComputer.countsOk { sc with conflictHold := 15 } := by
  obtain ⟨hfresh, -, hrest⟩ := h
  exact ⟨hfresh, le_refl 15, hrest⟩

theorem State.viewClaim_countsOk (c : RxClaim) (h : s.sc.countsOk) : (s.viewClaim c).sc.countsOk := by
  unfold State.viewClaim
  split
  · unfold State.idConflict
    dsimp only
    split
    · exact ShareComputer.conflict_countsOk h
    · simpa using ShareComputer.conflict_countsOk h
  · exact h

/-- A site record is at most 60000 and good for four expiries (R61, R62). -/
theorem ShareComputer.takeSite_countsOk (building : Nat) (h : sc.countsOk) : (sc.takeSite building).countsOk := by
  obtain ⟨-, hconflict, -, -, hown⟩ := h
  refine ⟨le_refl 4, hconflict, fun _ => rfl, fun b hb => ?_, hown⟩
  cases hb
  exact Nat.min_le_right _ _

theorem State.handSite_sc (f : RxSite) (s : State) : (s.handSite f).sc = s.sc.takeSite f.building := by
  unfold State.handSite
  dsimp only
  split <;> simp

/-- The own ceiling is 0 or at least P_min (R56). -/
theorem State.expiryCeiling_zero_or (s : State) : s.expiryCeiling = 0 ∨ s.cfg.pMin ≤ s.expiryCeiling := by
  rcases ownCeiling_spec s.cfg s.pw.state s.pl.accept s.pw.stepCeiling (s.currentLookup.getD ⟨0, false⟩) with hzero | ⟨-, hmin, -⟩
  · exact .inl hzero
  · exact .inr hmin

/-- A count taken one down is a count still running (R62, R68). -/
theorem State.expiryStore_countsOk (h : s.sc.countsOk) : s.expiryStore.countsOk := by
  obtain ⟨hfresh, hconflict, hload, hrange, -⟩ := h
  obtain ⟨hfloor, hurgency, hnone, -⟩ := ownClaimOf_spec s.cfg s.sc s.dc.isSet s.expiryCeiling s.expiryRequired s.expiryCeiling_zero_or
  refine ⟨?_, ?_, fun hpos => ?_, hrange, hfloor, hurgency, hnone⟩
  · exact (Nat.sub_le _ _).trans hfresh
  · exact (Nat.sub_le _ _).trans hconflict
  · exact hload (hpos.trans_le (Nat.sub_le _ _))

theorem State.judgeImage_countsOk (image : List Byte) (contactClosed : Bool) (h : s.sc.countsOk) :
    (s.judgeImage image contactClosed).sc.countsOk := by
  unfold State.judgeImage
  split
  · rw [State.enterActive_eq]
    split
    · rw [State.queueReport_sc]
      exact h
    · exact h
  · exact h

theorem powerOn_countsOk (brownOut senseClosed : Bool) (waiting : List Instr) : (powerOn brownOut senseClosed waiting).sc.countsOk := by
  simp [ShareComputer.countsOk, powerOn, State.reset, ShareComputer.reset, OwnClaim.nonClaimant]

theorem exec_countsOk {c : Instr} (hs : s.sc.countsOk) (h : exec c s = .next t) : t.sc.countsOk := by
  cases c
  case powerUp => cases h; exact powerOn_countsOk _ _ _
  case brownOut => cases h; exact powerOn_countsOk _ _ _
  case imageReadComplete =>
    cases h
    split
    · exact State.judgeImage_countsOk _ _ hs
    · exact hs
  case claimReceived check =>
    cases h
    dsimp only
    split
    · split
      · simpa using State.viewClaim_countsOk (s := s.acceptFrame check) (readClaim s.li.rxBuffer) hs
      · exact hs
    · exact hs
  case siteReceived =>
    cases h
    dsimp only
    split
    · split
      · simpa [State.handSite_sc] using ShareComputer.takeSite_countsOk _ hs
      · exact hs
    · exact hs
  case claimPeriodExpiry =>
    cases h
    split
    · exact State.expiryStore_countsOk hs
    · exact hs
  all_goals exact exec_sc rfl h ▸ hs

end

/-- Settles O59, command by command: the clock's own operations, and the Share Computer's. -/
theorem clockAndShareCountsKept : Obligations.ClockAndShareCountsKept := fun _ _ _ h =>
  ⟨fun hs => exec_timeOk hs h, fun hset hc => (exec_clock hc h).set hset, fun hs => exec_countsOk hs h⟩

end Sys2Proof.Machine
end

section
/-! PROOFS. The queue of commands, power-on and the image read (spec chapter 09): every command answers, the supply events reset every
block, the image read ends in ACTIVE or CONFIG-FAULT, and every invariant holds right after reset (R146 to R150). -/

namespace Sys2Proof.Machine

section
variable {s t : State}

/-! ## The queue of commands -/

theorem exec_answers (c : Instr) (s : State) : ∃ t, exec c s = .next t := by
  cases c <;> exact ⟨_, rfl⟩

theorem exec_pending {c : Instr} (h : exec c s = .next t) : t.pending = s.pending := by
  cases c
  case powerUp | brownOut =>
    cases h
    rfl
  case senseReadsClosed =>
    cases h
    dsimp only
    split <;> rfl
  case imageReadComplete =>
    cases h
    unfold State.judgeImage
    (repeat' split)
    · rw [State.enterActive_eq]
      split <;> simp [State.started]
    · rfl
    · rfl
  all_goals
    cases h
    (repeat' split) <;> simp

/-! ## The image read -/

theorem serialBits_sampled (image : List Byte) :
    (image.flatMap fun b => [7, 6, 5, 4, 3, 2, 1, 0].map b.getLsbD) = serialBits image := (serialBits_spelled image).symm

/-- A read of a whole image in LOADING judges the bytes it was sent as (R147, R148). -/
theorem exec_imageRead (image : List Byte) (contact : Bool) (hloading : s.sl.config = .loading) (hlength : image.length = 96) :
    exec (.imageReadComplete (serialBits image) contact) s = .next (s.judgeImage image contact) := by
  have hbytes : serialBytes 96 (serialBits image) = image := by
    simpa [hlength] using serialBytes_serialBits image []
  have hdue : s.loading = true ∧ (serialBits image).length = 8 * 96 := by simp [State.loading, hloading, hlength]
  simp only [exec, execImageReadComplete]
  rw [if_pos hdue, hbytes]

end

/-- Settles O1. -/
theorem stepRunsFrontCommand : Obligations.StepRunsFrontCommand := by
  refine ⟨fun c s => rfl, fun c s => ?_, fun s hempty => ?_⟩
  · obtain ⟨t, ht⟩ := exec_answers c s
    exact ⟨t, ht, exec_pending ht⟩
  · rw [step, hempty]

/-- Settles O2: both supply events are `powerOn`. -/
theorem supplyEventsResetEveryBlock : Obligations.SupplyEventsResetEveryBlock := by
  intro closed s sent
  exact ⟨rfl, rfl⟩

/-- Settles O3: the bits sampled are those of the image's bytes, and an image is judged by `imageValid`. -/
theorem imageReadEndsInActiveOrConfigFault : Obligations.ImageReadEndsInActiveOrConfigFault := by
  unfold Obligations.ImageReadEndsInActiveOrConfigFault
  intro sampled
  have hsampled : ∀ image, sampled image = serialBits image := serialBits_sampled
  refine ⟨fun bits hlength => ⟨serialBytes 96 bits, by simp, ?_⟩, fun image contact s hloading hlength => ?_⟩
  · rw [hsampled, serialBits_serialBytes 96 bits hlength]
  · rw [hsampled, exec_imageRead image contact hloading hlength]
    refine ⟨fun hvalid => ?_, fun hinvalid => ?_⟩
    · rw [State.judgeImage, if_pos hvalid, State.enterActive_eq]
      rfl
    · rw [State.judgeImage, if_neg (by simp [hinvalid])]
      rfl

/-- The invariants hold after either supply event, with or without a weld found. -/
theorem powerOn_invariants (brownOut senseClosed : Bool) (waiting : List Instr) :
    let s := powerOn brownOut senseClosed waiting
    s.lineOk ∧ s.dc.timeOk ∧ s.viewOk ∧ s.startOk ∧ s.setpointOk ∧ s.ps.contactorOk s.active ∧ s.pw.ok ∧ s.linkOk ∧ s.viewsAgree
      ∧ s.sc.countsOk :=
  ⟨powerOn_lineOk _ _ _, powerOn_timeOk _ _ _, powerOn_viewOk _ _ _, powerOn_startOk _ _ _, powerOn_setpointOk _ _ _,
    powerOn_contactorOk _ _ _, powerOn_walkerOk _ _ _, powerOn_linkOk _ _ _, powerOn_viewsAgree _ _ _, powerOn_countsOk _ _ _⟩

/-- Settles O60: the state after reset is that of a power-up that finds no weld. -/
theorem invariantsHoldAfterReset : Obligations.InvariantsHoldAfterReset := by
  intro weldFound s hs
  rcases hs with rfl | hpower
  · exact powerOn_invariants false false []
  · cases hpower
    exact powerOn_invariants false weldFound []

end Sys2Proof.Machine
end

section
/-! PROOFS. Sending on the depot line (spec sections 1.2, 1.5, 1.6): where an attempt begins, what cuts it, and how a frame sent whole
leaves the queue (R3 to R5, R16 to R23). -/

namespace Sys2Proof.Machine

/-! ## The state of the line, and the queue around the frame on it -/

/-- The transmit queue with an attempt on the line: the frame sent, those before and those after it. -/
structure SplitAt (q before : List QueueEntry) (e : QueueEntry) (after : List QueueEntry) : Prop where
  queue : q = before ++ e :: after
  onLine : e.onLine = true
  others : ∀ x ∈ before ++ after, x.onLine = false

section
variable {s t : State} {l : LineState} {q before after : List QueueEntry} {e : QueueEntry}

theorem State.lineIs_of (hconfig : s.sl.config ≠ .loading) (hline : s.li.line = l) : s.lineIs l = true := by
  simp [State.lineIs, State.loading, hconfig, hline]

/-- A change of the frame on the line alone leaves the other entries. -/
theorem SplitAt.filterMap {f : QueueEntry → Option QueueEntry} (h : SplitAt q before e after) (hf : ∀ x, x.onLine = false → f x = some x) :
    q.filterMap f = before ++ (f e).toList ++ after := by
  have hkept : ∀ l : List QueueEntry, (∀ x ∈ l, x.onLine = false) → l.filterMap f = l := fun l hl => by
    rw [List.filterMap_congr fun x hx => hf x (hl x hx), List.filterMap_some]
  have hbefore := hkept before fun x hx => h.others x (by simp [hx])
  have hafter := hkept after fun x hx => h.others x (by simp [hx])
  rw [h.queue, List.filterMap_append, hbefore, List.filterMap_cons]
  cases hfe : f e <;> simp [hafter]

theorem SplitAt.sentEntry (h : SplitAt q before e after) : sentEntry q = some e := by
  have hbefore : before.find? QueueEntry.onLine = none := List.find?_eq_none.mpr fun x hx => by simp [h.others x (by simp [hx])]
  rw [Machine.sentEntry, h.queue, List.find?_append, hbefore, List.find?_cons_of_pos h.onLine]
  rfl

/-! ## Attempts that are cut (R17, R18) -/

theorem mismatchEntry_of_waiting (h : e.onLine = false) : mismatchEntry e = some e := by simp [mismatchEntry, h]

theorem mismatchEntry_of_retries (h : e.onLine = true) (hleft : e.retries + 1 < 3) :
    mismatchEntry e = some { e with onLine := false, replaced := false, retries := e.retries + 1 } := by
  rw [mismatchEntry, if_pos h, if_neg (by omega)]
  rfl

theorem mismatchEntry_of_third (h : e.onLine = true) (hthird : 3 ≤ e.retries + 1) : mismatchEntry e = none := by
  rw [mismatchEntry, if_pos h, if_pos hthird]

theorem SplitAt.thirdMismatch (h : SplitAt q before e after) : thirdMismatch q = decide (3 ≤ e.retries + 1) := by
  have hothers : ∀ l : List QueueEntry, (∀ x ∈ l, x.onLine = false) → Machine.thirdMismatch l = false := fun l hl => by
    simp only [Machine.thirdMismatch, List.any_eq_false]
    intro x hx
    simp [hl x hx]
  have hbefore := hothers before fun x hx => h.others x (by simp [hx])
  have hafter := hothers after fun x hx => h.others x (by simp [hx])
  unfold Machine.thirdMismatch at hbefore hafter ⊢
  rw [h.queue, List.any_append, List.any_cons, hbefore, hafter, h.onLine]
  simp

theorem exec_arbitrationLoss (hconfig : s.sl.config ≠ .loading) (hline : s.li.line = .sending) :
    exec .arbitrationLoss s = .next (s.withLi { s.li with
      line := .receiving, rxBuffer := [], queue := s.li.queue.map QueueEntry.offLine, output := .recessive }) := by
  simp only [exec, execArbitrationLoss]
  rw [if_pos (State.lineIs_of hconfig hline)]

theorem exec_transmitMismatch (hconfig : s.sl.config ≠ .loading) (hline : s.li.line = .sending) (hq : SplitAt s.li.queue before e after) :
    exec .transmitMismatch s = .next (s.withLi { s.li.enterGap 0 with
      queue := before ++ (mismatchEntry e).toList ++ after,
      errors := { s.li.errors with txMismatch := s.li.errors.txMismatch || decide (3 ≤ e.retries + 1) },
      output := .recessive, clearDriven := 24 }) := by
  simp only [exec, execTransmitMismatch]
  rw [if_pos (State.lineIs_of hconfig hline), hq.filterMap fun _ => mismatchEntry_of_waiting, hq.thirdMismatch]

/-! ## Frames sent whole (R19, R22) -/

theorem sentWholeEntry_of_waiting (h : e.onLine = false) : sentWholeEntry e = some e := by simp [sentWholeEntry, h]

theorem sentWholeEntry_of_sent (h : e.onLine = true) :
    sentWholeEntry e = if e.replaced then some { e with onLine := false, replaced := false } else none := by
  rw [sentWholeEntry, if_pos h]
  rfl

theorem exec_frameSentWhole (hconfig : s.sl.config ≠ .loading) (hline : s.li.line = .sending) (hq : SplitAt s.li.queue before e after)
    (hframe : e.frame ≠ .diag) :
    exec .frameSentWhole s = .next (s.withLi { (s.li.enterGap s.li.output.recessiveEnd).raiseValid with
      queue := before ++ (sentWholeEntry e).toList ++ after, output := .recessive }) := by
  have hnotDiag : e.isDiag = false := by simpa using mt e.isDiag_iff.mp hframe
  simp only [exec, execFrameSentWhole]
  rw [if_pos (by simp [State.lineIs_of hconfig hline, hq.sentEntry, hnotDiag]), hq.filterMap fun _ => sentWholeEntry_of_waiting]

theorem exec_diagSentWhole (hconfig : s.sl.config ≠ .loading) (hline : s.li.line = .sending) (hq : SplitAt s.li.queue before e after)
    (hframe : e.frame = .diag) :
    exec .diagSentWhole s = .next ((s.withLi { s.li.enterGap s.li.output.recessiveEnd with
      queue := before ++ (sentWholeEntry e).toList ++ after,
      validCount := 0, discardCount := 0, errors := .clear, stuckSeen := false, output := .recessive }).withSl
        { s.sl with brownOut := false }) := by
  simp only [exec, execDiagSentWhole]
  rw [if_pos (by simp [State.lineIs_of hconfig hline, hq.sentEntry, e.isDiag_iff.mpr hframe]),
    hq.filterMap fun _ => sentWholeEntry_of_waiting]

/-! ## Where an attempt begins (R16, R20) -/

theorem queueFrame_ne_nil (f : OwnFrame) (q : List QueueEntry) : queueFrame f q ≠ [] := by
  have hjoin : ∀ f : OwnFrame, joinQueue f q ≠ [] := fun f => by simp [joinQueue, insertEntry]
  have hany : ∀ p : QueueEntry → Bool, q.any p = true → q ≠ [] := fun p hp hnil => by simp [hnil] at hp
  unfold queueFrame
  split
  · split
    · next hclaim => simpa using hany _ hclaim
    · exact hjoin _
  · split
    · next hdiag => exact hany _ hdiag
    · exact hjoin _
  · exact hjoin _

theorem State.beginAttempt_of_queue {rest : List QueueEntry} (h : s.li.queue = e :: rest) :
    s.beginAttempt = s.withLi { s.li with
      line := .sending, queue := { e with onLine := true } :: rest, output := .frame (frameLevels (ownFrameBytes s e.frame)) } := by
  simp only [State.beginAttempt, State.headOutput, h, markHead]

theorem State.trySend_of_free {rest : List QueueEntry} (hline : s.li.line = .idle) (hstuck : s.li.stuck = false)
    (hid : validSender s.sl.stationId = true) (h : s.li.queue = e :: rest) :
    s.trySend = s.withLi { s.li with
      line := .sending, queue := { e with onLine := true } :: rest, output := .frame (frameLevels (ownFrameBytes s e.frame)) } := by
  have hfree : s.maySend = true := s.maySend_iff.mpr ⟨hline, by simp [h], hstuck, hid⟩
  rw [State.trySend, if_pos hfree, State.beginAttempt_of_queue h]

theorem State.trySend_of_barred (h : s.maySend = false) : s.trySend = s := if_neg (by simp [h])

theorem State.maySend_eq_false (h : s.li.line ≠ .idle ∨ s.li.queue = [] ∨ s.li.stuck = true ∨ validSender s.sl.stationId = false) :
    s.maySend = false := by
  rw [← Bool.not_eq_true, s.maySend_iff]
  rintro ⟨hline, hqueue, hstuck, hid⟩
  simp_all

theorem exec_frameGapComplete (hconfig : s.sl.config ≠ .loading) (hline : s.li.line = .gap) (hstuck : s.li.stuck = false) :
    exec .frameGapComplete s = .next (State.trySend (s.withLi { s.li with line := .idle, recessive := 11 })) := by
  simp only [exec, execFrameGapComplete]
  rw [if_pos (by simp [State.lineIs_of hconfig hline, hstuck])]

theorem exec_joinForeignStart (hconfig : s.sl.config ≠ .loading) (hline : s.li.line = .idle) :
    exec .joinForeignStart s
      = .next (if s.maySend then s.beginAttempt else s.withLi { s.li with line := .receiving, rxBuffer := [] }) := by
  simp only [exec, execJoinForeignStart]
  rw [if_pos (State.lineIs_of hconfig hline)]

end

/-- Settles O6: the frame on the line is the one entry a cut attempt changes. -/
theorem cutAttemptsKeepOrDropTheFrame : Obligations.CutAttemptsKeepOrDropTheFrame := by
  intro s hconfig hline
  refine ⟨exec_arbitrationLoss hconfig hline, fun before after e hqueue honLine hothers => ?_⟩
  have hq : SplitAt s.li.queue before e after := ⟨hqueue, honLine, hothers⟩
  rw [exec_transmitMismatch hconfig hline hq]
  refine ⟨fun hleft => ?_, fun hthird => ?_⟩
  · rw [mismatchEntry_of_retries honLine hleft, decide_eq_false (by omega)]
    simp [LineInterface.enterGap]
  · rw [mismatchEntry_of_third honLine hthird, decide_eq_true hthird]
    simp [LineInterface.enterGap]

/-- Settles O7: a CLAIM replaced on the line is the one frame that stays. -/
theorem framesSentWholeLeaveTheQueue : Obligations.FramesSentWholeLeaveTheQueue := by
  refine ⟨fun s before after e hconfig hline hqueue honLine hothers hframe => ?_,
    fun s before after e hconfig hline hqueue honLine hothers hframe hreplaced => ?_⟩
  · rw [exec_frameSentWhole hconfig hline ⟨hqueue, honLine, hothers⟩ hframe, sentWholeEntry_of_sent honLine]
    cases hreplaced : e.replaced
    · simp only [Bool.false_eq_true, if_false, Option.toList_none, List.append_nil]
      rfl
    · simp only [if_true, Option.toList_some, List.append_assoc, List.singleton_append]
      rfl
  · rw [exec_diagSentWhole hconfig hline ⟨hqueue, honLine, hothers⟩ hframe, sentWholeEntry_of_sent honLine, hreplaced]
    simp [LineInterface.enterGap, ErrorFlags.clear]

/-- Settles O5: at each of its moments R16 comes to whether `maySend` holds. -/
theorem attemptBeginsWhenFreeToSend : Obligations.AttemptBeginsWhenFreeToSend := by
  refine ⟨fun s f => ⟨queueFrame_ne_nil f _, fun hline hstuck hid e rest hqueue => ?_, fun hbarred => ?_⟩,
    fun s kind tag detail => ⟨fun hactive => ?_, fun hidle => ?_⟩, fun s hconfig => ⟨fun hline => ?_, fun hstuck hid e rest hqueue =>
      ⟨fun hline => ?_, fun hline => ?_⟩, fun hstuck hempty hline => ?_, fun hbarred hline => ?_⟩⟩
  · rw [State.enqueue, State.trySend_of_free (s := s.withLi { s.li with queue := queueFrame f s.li.queue }) hline hstuck hid hqueue]
    rfl
  · rw [State.enqueue, State.trySend_of_barred (State.maySend_eq_false ?_)]
    tauto
  · rw [State.queueReport, if_pos (by simp [State.active, hactive])]
    cases hsource : s.dc.source <;> simp [DepotClock.reportMinute, DepotClock.isSet, DepotClock.minute, hsource]
  · exact if_neg (by simp [State.active, hidle])
  · simp only [exec, execDominantLevelInGap]
    rw [if_pos (State.lineIs_of hconfig hline)]
  · rw [exec_frameGapComplete hconfig hline hstuck,
      State.trySend_of_free (s := s.withLi { s.li with line := .idle, recessive := 11 }) rfl hstuck hid hqueue]
    rfl
  · rw [exec_joinForeignStart hconfig hline, if_pos (s.maySend_iff.mpr ⟨hline, by simp [hqueue], hstuck, hid⟩),
      State.beginAttempt_of_queue hqueue]
  · rw [exec_frameGapComplete hconfig hline hstuck, State.trySend_of_barred (State.maySend_eq_false ?_)]
    tauto
  · rw [exec_joinForeignStart hconfig hline, State.maySend_eq_false (.inr hbarred)]
    rfl

end Sys2Proof.Machine
end

section
/-! PROOFS. Receiving on the depot line (spec sections 1.2, 1.4, 1.6, 9.5, 10.2): line clear and line stuck, the bytes of a frame, the
receive checks and the frames that are only counted (R2 to R4, R9 to R14, R22, R155, R158). -/

namespace Sys2Proof.Machine

/-- The line in a frame being received: the part takes notice of it (R24). -/
structure State.Receiving (s : State) : Prop where
  awake : s.sl.config ≠ .loading
  line : s.li.line = .receiving

section
variable {s t : State} {b check : Byte} {kind : Nat}

theorem State.Receiving.lineIs (h : s.Receiving) : s.lineIs .receiving = true := State.lineIs_of h.awake h.line

theorem validSender_iff (id : Nat) : validSender id = true ↔ 1 ≤ id ∧ id ≤ 62 := by simp [validSender]

/-! ## Line clear and line stuck (R3, R4) -/

/-- A line clear ends a frame in RECEIVING, and restarts the gap elsewhere. -/
theorem exec_lineClear (hconfig : s.sl.config ≠ .loading) (hline : s.li.line ≠ .sending) :
    exec .lineClear s = .next (s.withLi { s.li.enterGap 0 with errors := { s.li.errors with
      clearInFrame := s.li.errors.clearInFrame || (decide (s.li.line = .receiving) && !s.li.rxBuffer.isEmpty) } }) := by
  simp only [exec, execLineClear]
  rw [if_neg (by simp [State.loading, hconfig, hline])]

theorem exec_lineStuck (hconfig : s.sl.config ≠ .loading) (hline : s.li.line ≠ .sending) :
    exec .lineStuck s = .next (s.withLi { s.li with stuck := true, stuckSeen := true }) := by
  simp only [exec, execLineStuck]
  rw [if_neg (by simp [State.loading, hconfig, hline])]

theorem exec_lineStuckRelease (hconfig : s.sl.config ≠ .loading) (hstuck : s.li.stuck = true) :
    exec .lineStuckRelease s = .next (s.withLi { s.li.enterGap 0 with stuck := false }) := by
  simp only [exec, execLineStuckRelease]
  rw [if_pos (by simp [State.loading, hconfig, hstuck])]

/-- A line stuck begins no attempt: a foreign start bit is received (R4, R16). -/
theorem joinForeignStart_of_stuck (hstuck : s.li.stuck = true) (h : exec .joinForeignStart s = .next t) :
    t.li.queue = s.li.queue ∧ t.li.output = s.li.output := by
  cases h
  rw [State.maySend_eq_false (.inr (.inr (.inl hstuck)))]
  split <;> exact ⟨rfl, rfl⟩

/-! ## The bytes of a frame (R9 to R11) -/

theorem exec_byteTaken (h : s.Receiving) (hkeeps : keepsByte s.li.rxBuffer b = true) :
    exec (.byteTaken b) s = .next (s.withLi { s.li with rxBuffer := s.li.rxBuffer ++ [b] }) := by
  simp only [exec, execByteTaken]
  rw [if_pos (by simp [h.lineIs, hkeeps])]

/-- Where a byte is kept, by its place in the frame. -/
theorem keepsByte_iff (buf : List Byte) (b : Byte) : keepsByte buf b = true ↔
    (buf = [] ∧ validSender (headerSender b) = true) ∨ buf.length = 1
      ∨ (buf.length = 2 ∧ lengthFits (frameKind buf) b.toNat = true)
      ∨ (3 ≤ buf.length ∧ buf.length ≠ 3 + frameLength buf) := by
  match buf with
  | [] => simp [keepsByte]
  | [x] => simp [keepsByte]
  | [x, y] => simp [keepsByte]
  | x :: y :: z :: rest => simp [keepsByte, awaitsCheck]

theorem lengthFits_iff (kind length : Nat) : lengthFits kind length = true ↔
    (kind = 1 ∧ length = 14) ∨ (kind = 2 ∧ length = 8) ∨ (kind = 3 ∧ length = 16) ∨ (kind = 4 ∧ length = 8)
      ∨ (kind = 5 ∧ length = 1) ∨ (kind = 6 ∧ length = 11) ∨ (kind = 7 ∧ length = 6)
      ∨ ((kind = 0 ∨ 8 ≤ kind) ∧ length ≤ 24) := by
  match kind with
  | 0 | 1 | 2 | 3 | 4 | 5 | 6 | 7 => simp [lengthFits, kindPayload]
  | kind + 8 => simp [lengthFits, kindPayload]

theorem exec_openingFailure {f : HeaderFailure} (h : s.Receiving) (hempty : s.li.rxBuffer = []) (harises : HeaderFailure.arises f = true) :
    exec (.openingFailure f) s = .next (s.withLi { s.li.enterGap (HeaderFailure.recessive f) with
      errors := { s.li.errors with opening := true } }) := by
  simp only [exec, execOpeningFailure]
  rw [if_pos (by simp [h.lineIs, hempty, harises])]

theorem exec_missingStopBit (h : s.Receiving) (hheader : s.li.rxBuffer ≠ []) :
    exec .missingStopBit s = .next (s.withLi { s.li.enterGap 0 with errors := { s.li.errors with byte := true } }) := by
  simp only [exec, execMissingStopBit]
  rw [if_pos (by simp [h.lineIs, hheader])]

theorem exec_truncation (h : s.Receiving) (hheader : s.li.rxBuffer ≠ []) :
    exec .truncation s
      = .next (State.trySend (s.withLi { s.li.enterGap 21 with line := .idle, errors := { s.li.errors with byte := true } })) := by
  simp only [exec, execTruncation]
  rw [if_pos (by simp [h.lineIs, hheader])]

/-! ## The receive checks (R11 to R13) -/

theorem exec_lengthFailure (h : s.Receiving) (hlength : s.li.rxBuffer.length = 2) (hfails : lengthFits (frameKind s.li.rxBuffer) b.toNat = false) :
    exec (.lengthFailure b) s = .next (s.withLi { (s.li.enterGap (recessiveTail b)).raiseDiscard with
      errors := { s.li.errors with length := true } }) := by
  simp only [exec, execLengthFailure]
  rw [if_pos (by simp [h.lineIs, hlength, hfails])]

theorem exec_checkFailure (h : s.Receiving) (hawaits : awaitsCheck s.li.rxBuffer = true) (hfails : checkAgrees s.li.rxBuffer b = false) :
    exec (.checkFailure b) s = .next (s.withLi { (s.li.enterGap (recessiveTail b)).raiseDiscard with
      errors := { s.li.errors with check := true } }) := by
  simp only [exec, execCheckFailure]
  rw [if_pos (by simp [h.lineIs, hawaits, hfails])]

theorem exec_unexpectedFrame (h : s.Receiving) (hawaits : awaitsCheck s.li.rxBuffer = true) (hagrees : checkAgrees s.li.rxBuffer b = true)
    (hfails : frameExpected s.li.rxBuffer = false) :
    exec (.unexpectedFrame b) s = .next (s.withLi { (s.li.enterGap (recessiveTail b)).raiseDiscard with
      errors := { s.li.errors with unexpected := true } }) := by
  simp only [exec, execUnexpectedFrame]
  rw [if_pos (by simp [h.lineIs, hawaits, hagrees, hfails])]

theorem awaitsCheck_iff (buf : List Byte) : awaitsCheck buf = true ↔ 3 ≤ buf.length ∧ buf.length = 3 + frameLength buf := by
  simp [awaitsCheck]

/-! ## Frames accepted (R14) -/

theorem State.Receiving.accepts (h : s.Receiving) (hcompletes : completesFrame kind s.li.rxBuffer check = true) :
    s.accepts kind check = true := by
  simp [State.accepts, h.lineIs, hcompletes]

/-- Outside ACTIVE a frame of a kind that another block owns is counted and no more (R14, R150). -/
theorem State.counted_of_inactive {handed : State} (h : s.Receiving) (hidle : s.active = false)
    (hcompletes : completesFrame kind s.li.rxBuffer check = true) :
    (if s.accepts kind check then if s.active then handed else s.acceptFrame check else s) = s.acceptFrame check := by
  rw [if_pos (h.accepts hcompletes), if_neg (by simp [hidle])]

theorem exec_otherReportReceived (h : s.Receiving)
    (hcompletes : completesFrame 6 s.li.rxBuffer check = true ∨ completesFrame 7 s.li.rxBuffer check = true) :
    exec (.otherReportReceived check) s = .next (s.acceptFrame check) := by
  have haccepts : (s.accepts 6 check || s.accepts 7 check) = true := by
    rcases hcompletes with hsix | hseven
    · simp [h.accepts hsix]
    · simp [h.accepts hseven]
  simp only [exec, execOtherReportReceived]
  rw [if_pos haccepts]

/-! ## The classes of the kinds (R7, R13) -/

theorem frameClass_eq (buf : List Byte) : frameClass buf
    = 2 * (if (buf.getD 0 0#8).getLsbD 0 then 1 else 0) + if (buf.getD 0 0#8).getLsbD 1 then 1 else 0 := by
  change bitWeight ((buf.getD 0 0#8).getLsbD 0) 1 + bitWeight ((buf.getD 0 0#8).getLsbD 1) 0 = _
  cases (buf.getD 0 0#8).getLsbD 0 <;> cases (buf.getD 0 0#8).getLsbD 1 <;> rfl

theorem siteOverCap_eq (buf : List Byte) : siteOverCap buf = (buf.getD 10 0#8).getLsbD 0 := by
  simp [siteOverCap, flagAt, byteAt, framePayload, List.getD_eq_getElem?_getD, List.getElem?_drop]

theorem frameExpected_iff (buf : List Byte) : frameExpected buf = true ↔
    (frameKind buf = 1 ∧ frameClass buf = 2) ∨ (frameKind buf = 2 ∧ frameClass buf = if siteOverCap buf then 0 else 1)
      ∨ ((frameKind buf = 3 ∨ frameKind buf = 4 ∨ frameKind buf = 5) ∧ frameClass buf = 1)
      ∨ ((frameKind buf = 6 ∨ frameKind buf = 7) ∧ frameClass buf = 3) := by
  unfold frameExpected
  split
  case h_1 | h_2 | h_3 | h_4 | h_5 | h_6 | h_7 => simp [*]
  case h_8 => simp_all

/-! ## DIAG-ASK (R22, R155) -/

theorem State.asksMe_iff (target : Nat) (s : State) :
    s.asksMe target = true ↔ target = 0 ∨ (target = s.sl.stationId ∧ 1 ≤ target ∧ target ≤ 62) := by
  rw [State.asksMe, Bool.or_eq_true, Bool.and_eq_true, decide_eq_true_eq, decide_eq_true_eq, validSender_iff]
  constructor
  · rintro (hzero | ⟨hid, rfl⟩)
    · exact .inl hzero
    · exact .inr ⟨rfl, hid⟩
  · rintro (hzero | ⟨rfl, hid⟩)
    · exact .inl hzero
    · exact .inr ⟨hid, rfl⟩

theorem exec_diagAskReceived (h : s.Receiving) (hcompletes : completesFrame 5 s.li.rxBuffer check = true) :
    exec (.diagAskReceived check) s
      = .next (if s.asksMe (readTarget s.li.rxBuffer) then (s.acceptFrame check).enqueue .diag else s.acceptFrame check) := by
  simp only [exec, execDiagAskReceived]
  rw [if_pos (h.accepts hcompletes)]

end

/-- Settles O8. -/
theorem lineClearAndLineStuck : Obligations.LineClearAndLineStuck := by
  refine ⟨fun s hconfig => ⟨fun hline hheader => ?_, fun hline hempty => ?_, fun hline => ?_⟩,
    fun s => ⟨fun hconfig hline => exec_lineStuck hconfig hline, fun hconfig hstuck => exec_lineStuckRelease hconfig hstuck,
      fun hstuck => ⟨State.trySend_of_barred (State.maySend_eq_false (.inr (.inr (.inl hstuck)))),
        fun t ht => joinForeignStart_of_stuck hstuck ht⟩⟩⟩
  · have hbytes : s.li.rxBuffer.isEmpty = false := by simpa using hheader
    rw [exec_lineClear hconfig (by simp [hline]), hbytes]
    simp [hline, LineInterface.enterGap]
  · rw [exec_lineClear hconfig (by simp [hline])]
    simp [hline, hempty, LineInterface.enterGap]
  · rcases hline with hline | hline <;>
    · rw [exec_lineClear hconfig (by simp [hline])]
      simp [hline, LineInterface.enterGap]

/-- Settles O12. -/
theorem bytesJoinTheBufferOrDropTheFrame : Obligations.BytesJoinTheBufferOrDropTheFrame := by
  refine ⟨lengthFits_iff, fun b s hconfig hline hplace => exec_byteTaken ⟨hconfig, hline⟩ ((keepsByte_iff _ _).mpr ?_),
    fun s hconfig hline => ⟨fun hempty => ⟨?_, fun header hsender => ?_⟩, fun hheader => ⟨?_, ?_⟩⟩⟩
  · rw [validSender_iff]
    rcases hplace with hopening | hkind | hlength | ⟨hthree, hbelow⟩
    · exact .inl hopening
    · exact .inr (.inl hkind)
    · exact .inr (.inr (.inl hlength))
    · exact .inr (.inr (.inr ⟨hthree, hbelow.ne⟩))
  · exact exec_openingFailure ⟨hconfig, hline⟩ hempty rfl
  · refine exec_openingFailure ⟨hconfig, hline⟩ hempty ?_
    rcases hsender with hsender | hsender <;> simp [HeaderFailure.arises, validSender, hsender]
  · exact exec_missingStopBit ⟨hconfig, hline⟩ hheader
  · exact exec_truncation ⟨hconfig, hline⟩ hheader

/-- Settles O13: the receive checks in their order, and frames that only count. -/
theorem refusedAndUnownedFramesAreCounted : Obligations.RefusedAndUnownedFramesAreCounted := by
  refine ⟨fun buf => ?_, fun s b hconfig hline => ⟨fun hlength hfails => ?_, fun hthree hwhole hfails => ?_,
    fun hthree hwhole hagrees hfails => ?_⟩, fun s check hconfig hline => ⟨fun hcompletes => ?_, fun hfault => ?_⟩⟩
  · have hexpected := frameExpected_iff buf
    rw [frameClass_eq, siteOverCap_eq] at hexpected
    exact hexpected
  · exact exec_lengthFailure ⟨hconfig, hline⟩ hlength hfails
  · exact exec_checkFailure ⟨hconfig, hline⟩ ((awaitsCheck_iff _).mpr ⟨hthree, hwhole⟩) (by simpa [checkAgrees] using hfails)
  · exact exec_unexpectedFrame ⟨hconfig, hline⟩ ((awaitsCheck_iff _).mpr ⟨hthree, hwhole⟩) (by simpa [checkAgrees] using hagrees) hfails
  · exact exec_otherReportReceived ⟨hconfig, hline⟩ hcompletes
  · have hidle : s.active = false := by simp [State.active, hfault]
    refine ⟨fun hcompletes => ?_, fun hcompletes => ?_, fun hcompletes => ?_, fun hcompletes => ?_⟩ <;>
      exact congrArg Host.Outcome.next (State.counted_of_inactive ⟨hconfig, hline⟩ hidle hcompletes)

/-- Settles O14: the count leaves the line in GAP, where a queued frame waits. -/
theorem diagAskQueuesOneDiag : Obligations.DiagAskQueuesOneDiag := by
  intro s check hconfig hline hcompletes
  rw [exec_diagAskReceived ⟨hconfig, hline⟩ hcompletes]
  refine ⟨fun hmine => ?_, fun hother => ?_⟩
  · rw [if_pos ((State.asksMe_iff (readTarget s.li.rxBuffer) s).mpr hmine), State.enqueue, State.trySend_of_barred (State.maySend_eq_false (.inl ?_))]
    · rfl
    · simp [State.acceptFrame, LineInterface.enterGap, LineInterface.raiseValid]
  · rw [if_neg (mt (State.asksMe_iff (readTarget s.li.rxBuffer) s).mp hother)]
    rfl

end Sys2Proof.Machine
end

section
/-! PROOFS. The frames the part sends (spec sections 1.3, 1.4, 10.1, 10.2, 11.1): their fields where the layouts place them, and a CLAIM
read as it was sent (R6 to R8, R153, R156, R159). -/

namespace Sys2Proof.Machine

/-! ## Fields as bytes (11, conventions) -/

/-- Byte `n` of a number, the least significant first. -/
def byteOf (v n : Nat) : Byte := BitVec.ofNat 8 (v / 2 ^ (8 * n))

theorem byteOf_zero (v : Nat) : byteOf v 0 = BitVec.ofNat 8 v := by simp [byteOf]

theorem leBytes_eq_map (n v : Nat) : leBytes n v = (List.range n).map (byteOf v) := by
  induction n generalizing v with
  | zero => rfl
  | succ n ih =>
    have hshift : ∀ i, byteOf (v / 256) i = byteOf v (i + 1) := fun i => by
      rw [byteOf, byteOf, Nat.div_div_eq_div_mul, Nat.mul_add, Nat.pow_add, Nat.mul_comm]
    rw [leBytes, ih, List.range_succ_eq_map, List.map_cons, List.map_map, byteOf_zero]
    exact congrArg _ (List.map_congr_left fun i _ => hshift i)

theorem leBytes_one (v : Nat) : leBytes 1 v = [byteOf v 0] := leBytes_eq_map 1 v
theorem leBytes_two (v : Nat) : leBytes 2 v = [byteOf v 0, byteOf v 1] := leBytes_eq_map 2 v
theorem leBytes_three (v : Nat) : leBytes 3 v = [byteOf v 0, byteOf v 1, byteOf v 2] := leBytes_eq_map 3 v
theorem leBytes_six (v : Nat) : leBytes 6 v = [byteOf v 0, byteOf v 1, byteOf v 2, byteOf v 3, byteOf v 4, byteOf v 5] :=
  leBytes_eq_map 6 v

@[simp] theorem leBytes_length (n v : Nat) : (leBytes n v).length = n := by simp [leBytes_eq_map]

theorem leNat_leBytes {n v : Nat} (h : v < 256 ^ n) : leNat (leBytes n v) = v := by
  induction n generalizing v with
  | zero => simp_all [leBytes, leNat]
  | succ n ih =>
    have hrest : v / 256 < 256 ^ n := by rw [Nat.div_lt_iff_lt_mul (by decide)]; omega
    rw [leBytes, leNat, ih hrest, BitVec.toNat_ofNat]
    omega

/-- A field at the front of some bytes is read as it was written, and the fields after it stand after it. -/
theorem fieldAt_front {n v : Nat} (rest : List Byte) (h : v < 256 ^ n) : fieldAt (leBytes n v ++ rest) 0 n = v := by
  rw [fieldAt, List.drop_zero, List.take_left' (leBytes_length n v), leNat_leBytes h]

theorem fieldAt_after (k u off n : Nat) (rest : List Byte) : fieldAt (leBytes k u ++ rest) (k + off) n = fieldAt rest off n := by
  rw [fieldAt, fieldAt, ← List.drop_drop, List.drop_left' (leBytes_length k u)]

/-! ## Flag bytes (R156, R159) -/

theorem bitWeight_false (i : Nat) : bitWeight false i = 0 := rfl

/-- Eight flags as the bits of a byte, the first the least significant. -/
theorem flagByte_eq_slotByte (a b c d e f g h : Bool) :
    BitVec.ofNat 8 (bitWeight a 0 + bitWeight b 1 + bitWeight c 2 + bitWeight d 3 + bitWeight e 4 + bitWeight f 5 + bitWeight g 6
      + bitWeight h 7) = slotByte [a, b, c, d, e, f, g, h] := by
  refine congrArg (BitVec.ofNat 8) ?_
  simp only [List.take, slotNat]
  rw [bitWeight_eq_mul b 1, bitWeight_eq_mul c 2, bitWeight_eq_mul d 3, bitWeight_eq_mul e 4, bitWeight_eq_mul f 5,
    bitWeight_eq_mul g 6, bitWeight_eq_mul h 7]
  omega

theorem dataBits_flagByte (a b c d e f g h : Bool) :
    dataBits (BitVec.ofNat 8 (bitWeight a 0 + bitWeight b 1 + bitWeight c 2 + bitWeight d 3 + bitWeight e 4 + bitWeight f 5 + bitWeight g 6
      + bitWeight h 7)) = [a, b, c, d, e, f, g, h] := by
  rw [flagByte_eq_slotByte, dataBits_slotByte rfl]

theorem ErrorFlags.dataBits_bits (e : ErrorFlags) : dataBits (BitVec.ofNat 8 e.bits)
    = [e.opening, e.byte, e.clearInFrame, e.check, e.length, e.unexpected, e.txMismatch, false] := by
  have hflags := dataBits_flagByte e.opening e.byte e.clearInFrame e.check e.length e.unexpected e.txMismatch false
  rwa [bitWeight_false, Nat.add_zero] at hflags

theorem dataBits_stateFlagBits (s : State) : dataBits (BitVec.ofNat 8 (stateFlagBits s))
    = [decide (s.sl.config = .configFault), s.sl.brownOut, s.ps.weldLatch, s.ps.closeLatch, decide (0 < s.sc.conflictHold), s.li.stuckSeen,
        false, false] := by
  have hflags := dataBits_flagByte (decide (s.sl.config = .configFault)) s.sl.brownOut s.ps.weldLatch s.ps.closeLatch
    (decide (0 < s.sc.conflictHold)) s.li.stuckSeen false false
  rwa [bitWeight_false, bitWeight_false, Nat.add_zero] at hflags

/-! ## A CLAIM read as it was sent (R6 to R8, R35, R159) -/

/-- The bytes of a frame before its check byte (R6). -/
def frameBody (cls id kind : Nat) (payload : List Byte) : List Byte :=
  headerByte cls id :: BitVec.ofNat 8 kind :: BitVec.ofNat 8 payload.length :: payload

theorem frameBytes_eq (cls id kind : Nat) (payload : List Byte) :
    frameBytes cls id kind payload = frameBody cls id kind payload ++ [crc8 (frameBody cls id kind payload)] := rfl

theorem ClaimContents.payload_length (c : ClaimContents) : c.payload.length = 14 := by simp [ClaimContents.payload]

theorem ClaimContents.completesFrame (id : Nat) (c : ClaimContents) :
    completesFrame 1 (frameBody 2 id 1 c.payload) (crc8 (frameBody 2 id 1 c.payload)) = true := by
  have hlength : frameLength (frameBody 2 id 1 c.payload) = 14 := by
    show (BitVec.ofNat 8 c.payload.length).toNat = 14
    rw [c.payload_length]
    rfl
  have hkind : frameKind (frameBody 2 id 1 c.payload) = 1 := rfl
  have hclass : frameClass (frameBody 2 id 1 c.payload) = 2 := headerClass_headerByte id (by decide)
  have hawaits : awaitsCheck (frameBody 2 id 1 c.payload) = true := by
    rw [awaitsCheck_iff, hlength]
    simp [frameBody, c.payload_length]
  have hexpected : frameExpected (frameBody 2 id 1 c.payload) = true := (frameExpected_iff _).mpr (.inl ⟨hkind, hclass⟩)
  have hagrees := (checkAgrees_iff (frameBody 2 id 1 c.payload) _).mpr rfl
  simp [Machine.completesFrame, hawaits, hagrees, hexpected, hkind]

theorem ClaimContents.read {id : Nat} {c : ClaimContents} (hid : validSender id = true) (htime : c.time < 2 ^ 24)
    (hfloor : c.floor < 2 ^ 16) (hceiling : c.ceiling < 2 ^ 16) (hurgency : c.urgency < 2 ^ 16) (hdraw : c.draw < 2 ^ 16) :
    readClaim (frameBody 2 id 1 c.payload) = ⟨id, c.time, c.floor, c.ceiling, c.urgency, c.draw⟩ := by
  have hsender : frameSender (frameBody 2 id 1 c.payload) = id := by
    obtain ⟨-, hid⟩ := (validSender_iff id).mp hid
    exact headerSender_headerByte 2 (by omega)
  have hpayload : framePayload (frameBody 2 id 1 c.payload) = c.payload := rfl
  have hread : fieldAt c.payload 0 3 = c.time ∧ fieldAt c.payload 3 2 = c.floor ∧ fieldAt c.payload 5 2 = c.ceiling
      ∧ fieldAt c.payload 7 2 = c.urgency ∧ fieldAt c.payload 9 2 = c.draw := by
    simp only [ClaimContents.payload, List.append_assoc]
    refine ⟨fieldAt_front _ htime, ?_, ?_, ?_, ?_⟩
    · rw [fieldAt_after 3 _ 0 2, fieldAt_front _ hfloor]
    · rw [fieldAt_after 3 _ 2 2, fieldAt_after 2 _ 0 2, fieldAt_front _ hceiling]
    · rw [fieldAt_after 3 _ 4 2, fieldAt_after 2 _ 2 2, fieldAt_after 2 _ 0 2, fieldAt_front _ hurgency]
    · rw [fieldAt_after 3 _ 6 2, fieldAt_after 2 _ 4 2, fieldAt_after 2 _ 2 2, fieldAt_after 2 _ 0 2, fieldAt_front _ hdraw]
  obtain ⟨hread0, hread3, hread5, hread7, hread9⟩ := hread
  simp only [readClaim, hsender, hpayload, hread0, hread3, hread5, hread7, hread9]

/-- Settles O11: each payload is its fields' bytes in a row, and a CLAIM's fields are read from where they stand. -/
theorem sentFramesCarryTheirFields : Obligations.SentFramesCarryTheirFields := by
  refine ⟨fun s c => ⟨byteOf (bitWeight c.atRisk 0) 0, ?_, fun i => ?_⟩, fun s r => ?_,
    fun s => ⟨byteOf s.li.errors.bits 0, byteOf (stateFlagBits s) 0, ?_, ?_, ?_⟩, fun id c hid htime hfloor hceiling hurgency hdraw =>
      ⟨frameBody 2 id 1 c.payload, crc8 (frameBody 2 id 1 c.payload), frameBytes_eq _ _ _ _, c.completesFrame id,
        ClaimContents.read hid htime hfloor hceiling hurgency hdraw⟩⟩
  · simp only [ownFrameBytes, ClaimContents.payload, leBytes_one, leBytes_two, leBytes_three]
    rfl
  · rw [byteOf_zero]
    cases c.atRisk <;> simp [bitWeight]
  · simp only [ownFrameBytes, ReportContents.payload, leBytes_one, leBytes_two, leBytes_six]
    cases r.kind <;> rfl
  · simp only [ownFrameBytes, diagPayload, leBytes_one, leBytes_two]
    rfl
  · rw [byteOf_zero]
    exact s.li.errors.dataBits_bits
  · rw [byteOf_zero]
    exact dataBits_stateFlagBits s

end Sys2Proof.Machine
end

section
/-! PROOFS. The Depot Clock and the Peer View (spec sections 2.2, 2.3, 3.3, 3.4, 4.4, 4.6): seconds, offered times, a received CLAIM and
SITE, and the tally (R26 to R32, R38 to R44, R61, R133). -/

namespace Sys2Proof.Machine

/-- The line in a frame being received, in ACTIVE (R14, R24). -/
structure State.ReceivingActive (s : State) : Prop where
  config : s.sl.config = .active
  line : s.li.line = .receiving

section
variable {s : State} {dc : DepotClock} {offered : Nat} {check : Byte} {kind : Nat}

/-! ## Times round the day (R26, R29) -/

theorem aheadBy_eq (offered own : Nat) (hown : own < 86400) : (aheadBy offered own : Int) = ((offered : Int) - (own : Int)) % 86400 := by
  unfold aheadBy secondsPerDay
  omega

theorem timeOffered_iff (offered : Nat) : timeOffered offered = true ↔ offered < 86400 := decide_eq_true_iff

/-- Two seconds or more away the short way round: not within a second ahead, nor a second behind. -/
theorem two_le_clockDistance_iff (offered own : Nat) :
    2 ≤ clockDistance offered own ↔ 2 ≤ aheadBy offered own ∧ aheadBy offered own ≤ 86398 := by
  unfold clockDistance secondsPerDay
  split <;> omega

theorem nextSecond_eq {time : Nat} (h : time < 86400) : (time + 1) % secondsPerDay = if time = 86399 then 0 else time + 1 := by
  unfold secondsPerDay
  split <;> omega

/-- The minute changes with the last second of one (R27). -/
theorem nextSecond_minute {time : Nat} (h : time < 86400) : (time + 1) % secondsPerDay / 60 = time / 60 ↔ time % 60 ≠ 59 := by
  rw [nextSecond_eq h]
  split <;> omega

theorem DepotClock.agedBySecond_eq (dc : DepotClock) :
    dc.agedBySecond = if dc.source = .anchored ∧ dc.anchorAge < 600 then dc.anchorAge + 1 else dc.anchorAge := by
  unfold DepotClock.agedBySecond raiseTo
  by_cases hanchored : dc.source = .anchored <;> simp [hanchored]

/-! ## What the clock does to the walker (R27, R31) -/

theorem State.moveClock_of_unset {next : DepotClock} (hunset : s.dc.source = .unset) (hnext : next.source ≠ .unset) :
    s.moveClock next = (s.withDc next).minuteRoll true := by
  unfold State.moveClock
  rw [if_pos hunset, if_neg hnext]

theorem State.moveClock_of_set {next : DepotClock} (hset : s.dc.source ≠ .unset) :
    s.moveClock next = if next.time / 60 = s.dc.time / 60 then s.withDc next else (s.withDc next).minuteRoll false := by
  unfold State.moveClock
  rw [if_neg hset]
  rfl

/-- An adoption, as the clock set event where the clock was UNSET and by the minute elsewhere. -/
theorem State.adoptTime_eq {source : ClockSource} (age : Nat) (hsource : source ≠ .unset) :
    s.adoptTime offered source age =
      if s.dc.source = .unset then State.minuteRoll true (s.withDc ⟨offered, 0, source, age⟩)
      else if offered / 60 = s.dc.time / 60 then s.withDc ⟨offered, 0, source, age⟩
      else State.minuteRoll false (s.withDc ⟨offered, 0, source, age⟩) := by
  unfold State.adoptTime
  split
  · next hunset => exact State.moveClock_of_unset hunset hsource
  · next hset => exact State.moveClock_of_set hset

theorem State.offerAnchor_of_not_offered (h : 86400 ≤ offered) : s.offerAnchor offered = s := by
  rw [State.offerAnchor, if_neg (by rw [timeOffered_iff]; omega)]

theorem State.offerPeerTime_of_not_offered (h : 86400 ≤ offered) : s.offerPeerTime offered = s := by
  rw [State.offerPeerTime, if_neg (by rw [timeOffered_iff]; omega)]

theorem State.offerAnchor_of_adopted (h : offered < 86400) (hfar : s.dc.source = .unset ∨ 2 ≤ clockDistance offered s.dc.time) :
    s.offerAnchor offered = s.adoptTime offered .anchored 0 := by
  rw [State.offerAnchor, if_pos ((timeOffered_iff _).mpr h), if_pos hfar]

theorem State.offerAnchor_of_near (h : offered < 86400) (hset : s.dc.source ≠ .unset) (hnear : ¬ 2 ≤ clockDistance offered s.dc.time) :
    s.offerAnchor offered = s.withDc { s.dc with source := .anchored, anchorAge := 0 } := by
  rw [State.offerAnchor, if_pos ((timeOffered_iff _).mpr h), if_neg (by simp only [hset, hnear, or_self, not_false_eq_true])]

theorem State.offerPeerTime_of_unset (h : offered < 86400) (hunset : s.dc.source = .unset) :
    s.offerPeerTime offered = s.adoptTime offered .peer s.dc.anchorAge := by
  rw [State.offerPeerTime, if_pos ((timeOffered_iff _).mpr h), hunset]

theorem State.offerPeerTime_of_peer (h : offered < 86400) (hpeer : s.dc.source = .peer) :
    s.offerPeerTime offered = if 1 ≤ aheadBy offered s.dc.time ∧ aheadBy offered s.dc.time ≤ 43200
      then s.adoptTime offered .peer s.dc.anchorAge else s := by
  rw [State.offerPeerTime, if_pos ((timeOffered_iff _).mpr h), hpeer]

theorem State.offerPeerTime_of_anchored (h : s.dc.source = .anchored) : s.offerPeerTime offered = s := by
  unfold State.offerPeerTime
  rw [h]
  split <;> rfl

/-! ## The frames of R14 that reach the clock -/

theorem State.ReceivingActive.receiving (h : s.ReceivingActive) : s.Receiving := ⟨by simp [h.config], h.line⟩

theorem State.ReceivingActive.active (h : s.ReceivingActive) : s.active = true := by simp [State.active, h.config]

/-- In ACTIVE an accepted frame is counted and handed to its block (R14). -/
theorem State.ReceivingActive.handed {handed : State} (h : s.ReceivingActive) (hcompletes : completesFrame kind s.li.rxBuffer check = true) :
    (if s.accepts kind check then if s.active then handed else s.acceptFrame check else s) = handed := by
  rw [if_pos (h.receiving.accepts hcompletes), if_pos h.active]

theorem State.ReceivingActive.exec_claimReceived (h : s.ReceivingActive) (hcompletes : completesFrame 1 s.li.rxBuffer check = true) :
    exec (.claimReceived check) s = .next (State.settleLink (State.offerPeerTime (readClaim s.li.rxBuffer).time
      ((s.acceptFrame check).viewClaim (readClaim s.li.rxBuffer)))) :=
  congrArg Host.Outcome.next (h.handed hcompletes)

theorem State.ReceivingActive.exec_siteReceived (h : s.ReceivingActive) (hcompletes : completesFrame 2 s.li.rxBuffer check = true) :
    exec (.siteReceived check) s = .next (State.settleLink ((s.acceptFrame check).handSite (readSite s.li.rxBuffer))) :=
  congrArg Host.Outcome.next (h.handed hcompletes)

theorem State.viewClaim_of_peer {c : RxClaim} (h : c.sender ≠ s.sl.stationId) : s.viewClaim c = s.withPv (s.pv.takeClaim c) := if_neg h

theorem State.viewClaim_of_own {c : RxClaim} (h : c.sender = s.sl.stationId) : s.viewClaim c = s.idConflict := if_pos h

theorem State.idConflict_of_guarded (h : s.pv.conflictGuard.isRunning = true) :
    s.idConflict = s.withSc { s.sc with conflictHold := 15 } := if_pos h

theorem State.idConflict_of_unguarded (h : s.pv.conflictGuard.isRunning = false) :
    s.idConflict = State.queueReport .fault s.pw.tag causeIdConflict
      ((s.withSc { s.sc with conflictHold := 15 }).withPv { s.pv with conflictGuard := .running 60000 }) :=
  if_neg (by simp [h])

/-! ## The tally (R44) -/

theorem PeerEntry.older_eq (e : PeerEntry) :
    e.older = { e with age := e.age + 1, stale := if e.age = 2 then true else e.stale } := by simp [PeerEntry.older]

/-- An entry at age 8 is removed, any other is a period older. -/
theorem ageEntries_eq_filterMap (l : List PeerEntry) : ageEntries l = l.filterMap fun e =>
    if 8 ≤ e.age + 1 then none else some { e with age := e.age + 1, stale := if e.age = 2 then true else e.stale } := by
  induction l with
  | nil => rfl
  | cons e rest ih =>
    unfold ageEntries at ih ⊢
    rw [List.map_cons, List.filterMap_cons, List.filter_cons, PeerEntry.older_eq, ih]
    by_cases hgone : 8 ≤ e.age + 1
    · rw [if_pos hgone, if_neg (by simpa using hgone)]
    · rw [if_neg hgone, if_pos (by simpa using Nat.lt_of_not_le hgone)]

end

/-- Settles O15. -/
theorem secondsAdvanceTheClock : Obligations.SecondsAdvanceTheClock := by
  intro s htime
  refine ⟨fun hunset => ?_, fun hset => ?_, fun hanchored hage => ?_, fun hearly => ?_⟩
  · simp only [exec, execOscillatorSecond]
    rw [if_neg (by simp [DepotClock.isSet, hunset])]
  · have hexec : exec .oscillatorSecond s = .next (State.settleLink (s.moveClock
        ⟨if s.dc.time = 86399 then 0 else s.dc.time + 1, 0, s.dc.source,
          if s.dc.source = .anchored ∧ s.dc.anchorAge < 600 then s.dc.anchorAge + 1 else s.dc.anchorAge⟩)) := by
      simp only [exec, execOscillatorSecond]
      rw [if_pos ((DepotClock.isSet_eq_true_iff _).mpr hset), nextSecond_eq htime, DepotClock.agedBySecond_eq]
    have hminute := nextSecond_minute htime
    rw [nextSecond_eq htime] at hminute
    dsimp only
    rw [hexec, State.moveClock_of_set hset]
    exact ⟨fun hsame => by rw [if_pos (hminute.mpr hsame)], fun hroll => by rw [if_neg (fun hkept => hminute.mp hkept hroll)]⟩
  · simp only [exec, execAnchorLapse]
    rw [if_pos ⟨hanchored, hage⟩]
  · simp only [exec, execAnchorLapse]
    rw [if_neg (by rintro ⟨hanchored, hage⟩; simp [hanchored] at hearly; omega)]

/-- Settles O16: the model's distance is the short way round the day of the statement's. -/
theorem offeredTimesByTheShortWay : Obligations.OfferedTimesByTheShortWay := by
  refine ⟨fun s offered h => ⟨State.offerAnchor_of_not_offered h, State.offerPeerTime_of_not_offered h⟩, fun s offered hown h => ?_⟩
  intro d adopt
  have hahead : (aheadBy offered s.dc.time : Int) = d := aheadBy_eq offered s.dc.time hown
  have hadopt : ∀ (source : ClockSource) (age : Nat), source ≠ .unset → s.adoptTime offered source age = adopt source age :=
    fun source age hsource => State.adoptTime_eq age hsource
  have hfar := two_le_clockDistance_iff offered s.dc.time
  refine ⟨fun hunset => ⟨?_, ?_⟩, fun hset hfrom hto => ?_, fun hset hnear => ?_, fun hpeer hfrom hto => ?_, fun hpeer hbehind => ?_,
    fun hanchored => State.offerPeerTime_of_anchored hanchored⟩
  · rw [State.offerAnchor_of_adopted h (.inl hunset), hadopt .anchored 0 (by simp)]
  · rw [State.offerPeerTime_of_unset h hunset, hadopt .peer _ (by simp)]
  · rw [State.offerAnchor_of_adopted h (.inr (hfar.mpr (by omega))), hadopt .anchored 0 (by simp)]
  · exact State.offerAnchor_of_near h hset (by rw [hfar]; omega)
  · rw [State.offerPeerTime_of_peer h hpeer, if_pos (by omega), hadopt .peer _ (by simp)]
  · rw [State.offerPeerTime_of_peer h hpeer, if_neg (by omega)]

/-- Settles O17: the view first, then the clock. -/
theorem claimReachesViewThenClock : Obligations.ClaimReachesViewThenClock := by
  intro s check hconfig hline hcompletes counted c held
  have hactive : s.ReceivingActive := ⟨hconfig, hline⟩
  have hexec : ∀ u, counted.viewClaim c = u →
      exec (.claimReceived check) s = .next (State.settleLink (State.offerPeerTime c.time u)) := by
    rintro u rfl
    exact hactive.exec_claimReceived hcompletes
  refine ⟨fun hpeer => hexec _ (State.viewClaim_of_peer hpeer), fun hown hguarded => hexec _ ?_, fun hown hunguarded => hexec _ ?_⟩
  · exact (State.viewClaim_of_own (s := counted) hown).trans (State.idConflict_of_guarded hguarded)
  · exact (State.viewClaim_of_own (s := counted) hown).trans (State.idConflict_of_unguarded hunguarded)

/-- Settles O19. -/
theorem tallyAgesEveryEntry : Obligations.TallyAgesEveryEntry := by
  intro s
  refine ⟨fun hrunning => ?_, fun hguarded => ?_⟩
  · simp only [exec, execTallyExpiry]
    rw [if_pos hrunning, ageEntries_eq_filterMap]
  · simp only [exec, execConflictReportGuardExpiry]
    rw [if_pos hguarded]

/-- Settles O20: the record, the shed and the anchor, in that order. -/
theorem siteFrameReachesItsBlocks : Obligations.SiteFrameReachesItsBlocks := by
  refine ⟨fun h k n t0 t1 t2 b0 b1 m0 m1 f => ?_, fun s check hconfig hline hcompletes => ?_⟩
  · simp only [readSite, framePayload, fieldAt, siteOverCap, flagAt, byteAt, List.drop, List.take, leNat, List.getD_cons_succ,
      List.getD_cons_zero, RxSite.mk.injEq, and_true]
    omega
  · intro f recorded
    have hactive : s.ReceivingActive := ⟨hconfig, hline⟩
    have hrecorded : (s.acceptFrame check).withSc (s.sc.takeSite f.building) = recorded := by
      rw [ShareComputer.takeSite, ← clamp_eq_min]
      rfl
    have hexec : exec (.siteReceived check) s = .next (State.settleLink (State.offerAnchor f.time
        (if f.overCap then recorded.withPs (s.ps.shed s.cfg f.total) else recorded))) := by
      rw [hactive.exec_siteReceived hcompletes, ← hrecorded]
      rfl
    rw [hexec]
    exact ⟨fun hunder => by rw [hunder]; rfl, fun hover => by rw [hover]; rfl⟩

end Sys2Proof.Machine
end

section
/-! PROOFS. What the Share Computer reads from the walker, and the shares of bays that hold the same claims (spec sections 4.5, 6.8; R64 to R66,
R105). -/

namespace Sys2Proof.Machine

/-! ## The current step and what comes after it (R105) -/

/-- The walker stands on the step `st`, with `after` the steps still to come. -/
structure Walker.StandsOn (pw : Walker) (p : WalkerPos) (before : List ProgStep) (st : ProgStep) (after : List ProgStep) : Prop where
  walking : pw.state.walking = true
  pos : pw.pos = some p
  steps : pw.steps = before ++ st :: after
  index : p.index = before.length

section
variable {pw : Walker} {p : WalkerPos} {before after : List ProgStep} {st : ProgStep}

theorem Walker.current_of_still (h : pw.state.walking = false) : pw.current = none := by simp [Walker.current, h]

theorem Walker.StandsOn.current (h : pw.StandsOn p before st after) : pw.current = some (p, st) := by
  have hstep : pw.steps[p.index]? = some st := by rw [h.steps, h.index]; simp
  rw [Walker.current, if_pos h.walking, Walker.atStep, h.pos]
  simp [hstep]

theorem Walker.StandsOn.laterAmounts (h : pw.StandsOn p before st after) (keep : ProgStep → Bool) :
    laterAmounts pw p keep = ((after.filter keep).map ProgStep.amount).sum := by
  have hafter : pw.steps.drop (p.index + 1) = after := by
    rw [h.steps, h.index, List.append_cons]
    exact List.drop_left' (by simp)
  rw [Machine.laterAmounts, hafter]

theorem StepKind.code_lt_of_not_cabin {k : StepKind} (h : k.code < StepKind.cabin.code) : k ≠ .cabin := by
  rintro rfl
  simp at h

/-- The CABIN step is the last of a programme in order, so it is the one a search finds (R94). -/
theorem find_cabin {steps : List ProgStep} {heat : ProgStep} (hord : steps.Pairwise (fun a b => a.kind.code < b.kind.code))
    (hmem : heat ∈ steps) (hheat : heat.kind = .cabin) : steps.find? (fun x => decide (x.kind = .cabin)) = some heat := by
  obtain ⟨ahead, behind, rfl⟩ := List.append_of_mem hmem
  have hnone : ahead.find? (fun x => decide (x.kind = .cabin)) = none := by
    refine List.find?_eq_none.mpr fun x hx => ?_
    have hbefore := (List.pairwise_append.mp hord).2.2 x hx heat List.mem_cons_self
    rw [hheat] at hbefore
    simpa using StepKind.code_lt_of_not_cabin hbefore
  rw [List.find?_append, hnone, List.find?_cons_of_pos (by simpa using hheat)]
  rfl

theorem Walker.StandsOn.deadline (h : pw.StandsOn p before st after) (hnot : st.kind ≠ .cabin) :
    pw.deadline = ((pw.steps.find? (fun x => decide (x.kind = .cabin))).bind ProgStep.notBefore).getD ((pw.held.map Plan.departure).getD 0) := by
  simp only [Walker.deadline, h.current, if_neg hnot]
  cases pw.steps.find? (fun x => decide (x.kind = .cabin)) <;> rfl

/-- A step before CABIN has none before it either. -/
theorem Walker.StandsOn.find_cabin_eq_none (h : pw.StandsOn p before st after) (hnot : st.kind ≠ .cabin)
    (hord : pw.steps.Pairwise (fun a b => a.kind.code < b.kind.code)) (hafter : ∀ x ∈ after, x.kind ≠ .cabin) :
    pw.steps.find? (fun x => decide (x.kind = .cabin)) = none := by
  refine List.find?_eq_none.mpr fun x hx => ?_
  rw [h.steps, List.pairwise_append] at hord
  rw [h.steps, List.mem_append, List.mem_cons] at hx
  rcases hx with hbefore | rfl | hx
  · have hless := hord.2.2 x hbefore st List.mem_cons_self
    rintro hcabin
    replace hcabin : x.kind = .cabin := by simpa using hcabin
    rw [hcabin] at hless
    cases hkind : st.kind <;> simp [hkind, StepKind.code] at hless
  · simpa using hnot
  · simpa using hafter x hx

end

/-- Settles O22: in a walking state the sums run over the steps after the current one. -/
theorem walkerHandsNeedAndDeadline : Obligations.WalkerHandsNeedAndDeadline := by
  intro pw
  refine ⟨fun hstill => ?_, fun before after st p plan hwalking hsteps hpos hindex hheld hord => ?_⟩
  · have hnone := Walker.current_of_still hstill
    simp [Walker.energyNeed, Walker.deadline, Walker.totalRemaining, Walker.stepCeiling, hnone]
  have hon : pw.StandsOn p before st after := ⟨hwalking, hpos, hsteps, hindex⟩
  have hcurrent := hon.current
  have hdeparture : (pw.held.map Plan.departure).getD 0 = plan.departure := by rw [hheld]; rfl
  refine ⟨by simp [Walker.stepCeiling, hcurrent], ?_, fun hcabin => ⟨?_, ?_⟩, fun hnot => ⟨?_, fun heat hmem hheat n hn => ?_, fun hafter => ?_⟩⟩
  · simp [Walker.totalRemaining, hcurrent, hon.laterAmounts]
  · simp [Walker.energyNeed, hcurrent, hcabin]
  · simp [Walker.deadline, hcurrent, hcabin, hdeparture]
  · simp only [Walker.energyNeed, hcurrent, if_neg hnot, hon.laterAmounts]
    rfl
  · have hin : heat ∈ pw.steps := by simp [hsteps, hmem]
    rw [hon.deadline hnot, find_cabin hord hin hheat]
    simp [hn]
  · rw [hon.deadline hnot, hon.find_cabin_eq_none hnot hord hafter]
    exact hdeparture

/-! ## Bays that hold the same claims (R64 to R66) -/

section
variable {budget : Nat} {l : List Claimant} {x : Claimant}

/-- Set at its place among the others, a claimant completes the list it was taken from. -/
theorem placeClaimant_filter (hord : l.Pairwise (fun a b => standsBefore a.urgency a.id b.urgency b.id = true))
    (hids : l.Pairwise (fun a b => a.id ≠ b.id)) (hx : x ∈ l) : placeClaimant x (l.filter fun y => decide (y.id ≠ x.id)) = l := by
  obtain ⟨ahead, behind, rfl⟩ := List.append_of_mem hx
  obtain ⟨-, hbehind, hahead⟩ := List.pairwise_append.mp hord
  obtain ⟨-, hidsBehind, hidsAhead⟩ := List.pairwise_append.mp hids
  rw [List.pairwise_cons] at hbehind hidsBehind
  have hkeptAhead : ahead.filter (fun y => decide (y.id ≠ x.id)) = ahead :=
    List.filter_eq_self.mpr fun y hy => by simpa using hidsAhead y hy x List.mem_cons_self
  have hkeptBehind : behind.filter (fun y => decide (y.id ≠ x.id)) = behind :=
    List.filter_eq_self.mpr fun y hy => by simpa using (hidsBehind.1 y hy).symm
  rw [List.filter_append, List.filter_cons_of_neg (by simp), hkeptAhead, hkeptBehind]
  refine placeClaimant_append (fun y hy => hahead y hy x List.mem_cons_self) fun y hy => standsBefore_eq_false ?_
  have hafter := (standsBefore_iff _ _ _ _).mp (hbehind.1 y hy)
  omega

/-- Parts of an amount in proportion, each rounded down, come to no more than the amount. -/
theorem sum_proportions_le (amount total : Nat) (l : List Claimant) (part : Claimant → Nat) :
    (l.map fun x => amount * part x / total).sum * total ≤ amount * (l.map part).sum := by
  induction l with
  | nil => simp
  | cons x xs ih =>
    rw [List.map_cons, List.sum_cons, List.map_cons, List.sum_cons, Nat.add_mul, Nat.mul_add]
    exact Nat.add_le_add (Nat.div_mul_le_self _ _) ih

/-- Case A: the floors and the extras, in proportion to the headrooms (R65). -/
theorem sum_shareWhenEnough_le (h : floorSum l ≤ budget) : (l.map fun x => shareWhenEnough budget x l).sum ≤ budget := by
  have hextras : (l.map fun x => if headroomSum l = 0 then 0 else (budget - floorSum l) * (x.ceiling - x.floor) / headroomSum l).sum
      ≤ budget - floorSum l := by
    by_cases hnone : headroomSum l = 0
    · simp [hnone]
    · have hprop := sum_proportions_le (budget - floorSum l) (headroomSum l) l fun x => x.ceiling - x.floor
      simp only [if_neg hnone]
      exact Nat.le_of_mul_le_mul_right hprop (Nat.pos_of_ne_zero hnone)
  have hshares : (l.map fun x => shareWhenEnough budget x l).sum
      ≤ (l.map fun x => x.floor + if headroomSum l = 0 then 0 else (budget - floorSum l) * (x.ceiling - x.floor) / headroomSum l).sum :=
    List.sum_le_sum fun x _ => Nat.min_le_left _ _
  have hsplit := List.sum_map_add (l := l) (f := Claimant.floor)
    (g := fun x => if headroomSum l = 0 then 0 else (budget - floorSum l) * (x.ceiling - x.floor) / headroomSum l)
  have hfloors : (l.map Claimant.floor).sum = floorSum l := rfl
  omega

/-- Case B: the walk grants each station from what those before it leave (R66). -/
theorem sum_walkGrant_le (hids : l.Pairwise (fun a b => a.id ≠ b.id)) (left : Nat) :
    (l.map fun x => walkGrant x.id l left).sum ≤ left := by
  induction l generalizing left with
  | nil => simp
  | cons y ys ih =>
    obtain ⟨hothers, hrest⟩ := List.pairwise_cons.mp hids
    have hbehind : (ys.map fun x => walkGrant x.id (y :: ys) left) = ys.map fun x => walkGrant x.id ys (left - min y.floor left) :=
      List.map_congr_left fun x hx => by rw [walkGrant, if_neg (hothers x hx)]
    have hfirst : walkGrant y.id (y :: ys) left = min y.floor left := by rw [walkGrant, if_pos rfl]
    have hleft := ih hrest (left - min y.floor left)
    rw [List.map_cons, List.sum_cons, hfirst, hbehind]
    omega

/-- A bay's share where its own claim is one of those all bays hold. -/
theorem ownShare_of_held {c : Settings} (hord : l.Pairwise (fun a b => standsBefore a.urgency a.id b.urgency b.id = true))
    (hids : l.Pairwise (fun a b => a.id ≠ b.id)) (hx : x ∈ l) (hid : c.stationId = x.id) :
    ownShare c ⟨true, x.floor, x.ceiling, x.urgency, false⟩ budget (l.filter fun y => decide (y.id ≠ x.id))
      = if floorSum l ≤ budget then shareWhenEnough budget x l else shareInShortfall c.pMin budget x l := by
  have hlisted : (⟨c.stationId, x.floor, x.ceiling, x.urgency⟩ : Claimant) = x := by rw [hid]
  rw [ownShare, if_pos rfl]
  dsimp only
  rw [hlisted, placeClaimant_filter hord hids hx]

end

/-- Settles O26: in Case A the extras share out what the floors leave, and in Case B the grants come from one walk. -/
theorem sharesTogetherFitTheBudget : Obligations.SharesTogetherFitTheBudget := by
  intro budget l cfg hord hids hbays
  by_cases henough : floorSum l ≤ budget
  · refine le_trans (List.sum_le_sum fun x hx => ?_) (sum_shareWhenEnough_le henough)
    rw [ownShare_of_held hord hids hx (hbays x hx).2, if_pos henough]
  · refine le_trans (List.sum_le_sum fun x hx => ?_) (sum_walkGrant_le hids budget)
    rw [ownShare_of_held hord hids hx (hbays x hx).2, if_neg henough]
    exact shareInShortfall_le _ _ _ _

end Sys2Proof.Machine
end

section
/-! PROOFS. The programme (spec sections 6.3, 6.5, 6.7): the steps a build forms, how a build enters them, the state check, and the end of a step
(R87, R93 to R95, R100, R101, R103). -/

namespace Sys2Proof.Machine

/-! ## The steps a build forms (R94) -/

/-- A step stands in the list unless its amount is 0. -/
def unlessEmpty (x : ProgStep) : List ProgStep := if x.amount = 0 then [] else [x]

theorem filter_amount_cons (x : ProgStep) (l : List ProgStep) :
    (x :: l).filter (fun y => decide (y.amount ≠ 0)) = unlessEmpty x ++ l.filter (fun y => decide (y.amount ≠ 0)) := by
  unfold unlessEmpty
  by_cases h : x.amount = 0 <;> simp [h]

theorem formSteps_last {c : Settings} {plan : Plan} {van : AttachedVan} {st : VanStatus} {x : ProgStep} (hx : x ∈ formSteps c plan van st) :
    x.last = false := by
  have hlisted := (List.mem_filter.mp hx).1
  simp only [List.mem_cons, List.not_mem_nil, or_false] at hlisted
  rcases hlisted with rfl | rfl | rfl | rfl <;> rfl

/-- With the end flags taken off again, the steps are as formed. -/
theorem buildSteps_without_last (c : Settings) (plan : Plan) (van : AttachedVan) (st : VanStatus) :
    (buildSteps c plan van st).map (fun x => { x with last := false }) = formSteps c plan van st := by
  refine (markLast_map (fun x : ProgStep => { x with last := false }) (fun _ => rfl) _).trans ?_
  refine (List.map_congr_left fun x hx => ?_).trans (List.map_id _)
  rw [← formSteps_last hx]
  rfl

/-- Of steps without an end flag, the mark sets the one of the last alone. -/
theorem markLast_last : ∀ (l : List ProgStep), (∀ x ∈ l, x.last = false) → ∀ (n : Nat) (x : ProgStep), (markLast l)[n]? = some x →
    (x.last = true ↔ n + 1 = l.length)
  | [], _, n, x, hx => by simp [markLast] at hx
  | [y], _, 0, x, hx => by
    obtain rfl : { y with last := true } = x := by simpa [markLast] using hx
    simp
  | [y], _, n + 1, x, hx => by simp [markLast] at hx
  | y :: z :: rest, hl, 0, x, hx => by
    obtain rfl : y = x := by simpa [markLast] using hx
    simp [hl y List.mem_cons_self]
  | y :: z :: rest, hl, n + 1, x, hx => by
    have hrest := markLast_last (z :: rest) (fun w hw => hl w (List.mem_cons_of_mem _ hw)) n x (by simpa [markLast] using hx)
    simpa using hrest

/-- The energy to a state of charge in permille fits the pack (R94). -/
theorem energyTo_le_capacity {top : Nat} (soc capacity : Nat) (h : top ≤ 1000) : energyTo soc top capacity ≤ capacity := by
  unfold energyTo
  split
  · refine (divUp_le_iff (by omega)).mpr ?_
    rw [Nat.mul_comm]
    exact Nat.mul_le_mul_left _ (by omega)
  · exact Nat.zero_le _

/-- Settles O30: the list of R94 without its empty steps, with the last one marked. -/
theorem buildFormsTheSteps : Obligations.BuildFormsTheSteps := by
  intro c plan van st
  obtain ⟨hlength, hordered, -⟩ := buildSteps_spec c plan van st
  refine ⟨?formed, fun n x hx => ?marked, hlength, hordered, fun htarget => ?needed⟩
  case formed =>
    rw [buildSteps_without_last]
    simp only [formSteps, filter_amount_cons, List.filter_nil, List.append_nil, ← List.append_assoc]
    rfl
  case marked =>
    have hlast := markLast_last _ (fun y hy => formSteps_last hy) n x hx
    rwa [buildSteps, markLast_length]
  case needed =>
    have hneed := energyTo_le_capacity st.soc van.capacity htarget
    have hbulk := bulkOf_le_needOf c st.soc plan.target van.capacity htarget
    rw [needOf, Nat.min_eq_left hneed] at hbulk
    refine ⟨hneed, hbulk, ?_⟩
    change bulkOf c st.soc plan.target van.capacity + (min (energyTo st.soc plan.target van.capacity) van.capacity
      - bulkOf c st.soc plan.target van.capacity) = energyTo st.soc plan.target van.capacity
    omega

/-! ## Entering the first step (R93, R95) -/

/-- What a build of steps reads: the plan held, the van attached, its status, and a SET clock (R93). -/
structure State.BuildsFrom (s : State) (plan : Plan) (van : AttachedVan) (st : VanStatus) : Prop where
  held : s.pw.held = some plan
  van : s.pw.van = some van
  status : s.pw.status = some st
  clock : s.dc.source ≠ .unset

section
variable {s : State} {plan : Plan} {van : AttachedVan} {st : VanStatus}

theorem State.BuildsFrom.buildOrAwait (h : s.BuildsFrom plan van st) : s.buildOrAwait = s.build plan van st := by
  have hset := (DepotClock.isSet_eq_true_iff _).mpr h.clock
  simp [State.buildOrAwait, h.held, h.van, h.status, hset]

theorem State.buildOrAwait_of_waiting (h : s.pw.held = none ∨ s.pw.van = none ∨ s.pw.status = none ∨ s.dc.source = .unset) :
    s.buildOrAwait = State.tellPower (s.heaterOff.withPw { s.pw with state := .awaiting, steps := [], pos := none }) := by
  unfold State.buildOrAwait
  split
  · next hheld hvan hstatus hset =>
    rcases h with h | h | h | h
    · simp [h] at hheld
    · simp [h] at hvan
    · simp [h] at hstatus
    · exact absurd h ((DepotClock.isSet_eq_true_iff _).mp hset)
  · rfl

/-- A step entered: a STATUS placed, its gate looked up, and the state check (R83, R95, R101). -/
theorem State.enterStep_withPw (s : State) (kind : StepKind) (pw : Walker) :
    State.enterStep kind (s.withPw pw) = State.stateCheck (s.placeStatus.withPw { pw with
      holds := { pw.holds with gateClosed := (s.placeStatus.lookup kind).gateClosed } }) := rfl

theorem State.build_of_steps {first : ProgStep} {rest : List ProgStep} (h : buildSteps s.cfg plan van st = first :: rest) :
    s.build plan van st = State.enterStep first.kind (s.heaterOff.withPw { s.pw with
      steps := first :: rest, pos := some ⟨0, first.amount, 0, false, false⟩, defaultTimer := .stopped }) := by
  simp only [State.build, h, State.buildWalk, State.heaterOff_pw]

theorem State.build_of_nil (h : buildSteps s.cfg plan van st = []) :
    s.build plan van st = State.queueReport .done s.pw.tag 0 (State.tellPower
      (s.heaterOff.placeStatus.withPw { s.pw with state := .done, steps := [], pos := none, defaultTimer := .stopped })) := by
  simp only [State.build, h, State.buildDone, State.placeStatus_pw, State.heaterOff_pw]

end

/-- Settles O31: by what the build finds, and then by the steps it forms. -/
theorem buildEntersTheFirstStep : Obligations.BuildEntersTheFirstStep := by
  refine ⟨fun s hwait => State.buildOrAwait_of_waiting hwait, fun s plan van st hheld hvan hstatus hclock => ?_⟩
  have hbuild := (State.BuildsFrom.mk hheld hvan hstatus hclock).buildOrAwait
  obtain ⟨tag, capacity⟩ := van
  have htag : s.pw.tag = tag := by simp [Walker.tag, hvan]
  refine ⟨fun hnone => ?_, fun first rest hsteps => ?_⟩
  · rw [hbuild, State.build_of_nil hnone, htag]
    rfl
  · rw [hbuild, State.build_of_steps hsteps, State.enterStep_withPw]
    rfl

/-! ## The state check (R87, R103) -/

section
variable {s : State} {p : WalkerPos} {st : ProgStep}

theorem ProgStep.early_iff (st : ProgStep) (minute : Nat) : st.early minute = true ↔ ∃ n, st.notBefore = some n ∧ minute < n := by
  unfold ProgStep.early
  cases st.notBefore <;> simp

theorem StepKind.heater_eq (k : StepKind) :
    k.heater = match k with | .warmPack => some ⟨true, false⟩ | .cabin => some ⟨false, true⟩ | _ => none := by cases k <;> rfl

theorem State.checkAt_of_held (h : checkedState s.pw.holds s.dc.minute p st = .held) :
    State.checkAt p st s = State.tellPower (s.withPw { s.pw with state := .held }) := by rw [State.checkAt, h]

theorem State.checkAt_of_waiting (h : checkedState s.pw.holds s.dc.minute p st = .waiting) :
    State.checkAt p st s = State.tellPower (s.withPw { s.pw with state := .waiting }) := by rw [State.checkAt, h]

theorem State.checkAt_of_running (h : checkedState s.pw.holds s.dc.minute p st = .running) :
    State.checkAt p st s = State.tellPower ((s.withPl (requestHeat p st s.pl)).withPw { s.pw with
      state := .running, pos := some (p.run st) }) := by rw [State.checkAt, h]

/-- No request where the step has no heater or the request was made already. -/
theorem requestHeat_of_none (pl : PlugLink) (h : st.kind.heater = none ∨ p.heaterMark = true) : requestHeat p st pl = pl := by
  unfold requestHeat
  split
  · next heaters hheater =>
    rw [hheater] at h
    rw [if_pos (by simpa using h)]
  · rfl

theorem WalkerPos.run_of_none (h : st.kind.heater = none ∨ p.heaterMark = true) : p.run st = { p with started := true } := by
  obtain ⟨index, remaining, carry, started, mark⟩ := p
  rcases h with h | h
  · simp [WalkerPos.run, h]
  · obtain rfl : mark = true := h
    simp [WalkerPos.run]

theorem requestHeat_of_some {heaters : Heaters} (pl : PlugLink) (h : st.kind.heater = some heaters) (hmark : p.heaterMark = false) :
    requestHeat p st pl = pl.placeHeater heaters := by
  rw [requestHeat, h]
  simp [hmark]

theorem WalkerPos.run_of_some {heaters : Heaters} (h : st.kind.heater = some heaters) :
    p.run st = { p with started := true, heaterMark := true } := by simp [WalkerPos.run, h]

end

/-- Settles O32: a minute roll by the walker's state, and the state check by the three cases of R87. -/
theorem stateCheckTakesTheFirstCase : Obligations.StateCheckTakesTheFirstCase := by
  refine ⟨fun s => ⟨fun hwalking b => ?walking, fun hstate hheld hstatus => ?built, fun hstate hmissing => ?notBuilt, fun hstill => ?still,
    fun hstill hnot => ?elsewhere⟩, fun s p st hat => ?_⟩
  case walking =>
    have hnot : s.pw.state ≠ .awaiting := by
      rintro h
      simp [h, ProgState.walking] at hwalking
    simp [State.minuteRoll, hwalking, hnot]
  case built => simp [State.minuteRoll, hstate, hheld, hstatus]
  case notBuilt => rcases hmissing with h | h <;> simp [State.minuteRoll, hstate, h, ProgState.walking]
  case still => simp [State.minuteRoll, hstill]
  case elsewhere => simp [State.minuteRoll, hstill, hnot]
  have hcheck : s.stateCheck = State.checkAt p st s := by rw [State.stateCheck, hat]
  refine ⟨fun hcause => ?_, fun hcause hearly => ?_, fun hcause hdue => ?_⟩
  · have hheld : checkedState s.pw.holds s.dc.minute p st = .held := if_pos hcause
    rw [hcheck, State.checkAt_of_held hheld]
    rfl
  · have hfree : s.pw.holds.holding = false := hcause
    obtain ⟨n, hn, hminute, hstarted⟩ := hearly
    have hearly := (st.early_iff s.dc.minute).mpr ⟨n, hn, hminute⟩
    have hwaiting : checkedState s.pw.holds s.dc.minute p st = .waiting := by
      rw [checkedState, if_neg (ne_true_of_eq_false hfree), if_pos (by simp [hearly, hstarted])]
    rw [hcheck, State.checkAt_of_waiting hwaiting]
    rfl
  · have hfree : s.pw.holds.holding = false := hcause
    have hruns : ¬ (st.early s.dc.minute && !p.started) = true := by
      intro h
      rw [Bool.and_eq_true, ProgStep.early_iff, Bool.not_eq_true'] at h
      obtain ⟨⟨n, hn, hminute⟩, hstarted⟩ := h
      exact hdue ⟨n, hn, hminute, hstarted⟩
    have hrunning : checkedState s.pw.holds s.dc.minute p st = .running := by
      rw [checkedState, if_neg (ne_true_of_eq_false hfree), if_neg hruns]
    rw [hcheck, State.checkAt_of_running hrunning]
    refine ⟨fun hspelled => ?_, fun heaters hspelled hmark => ?_⟩
    · have hnone := hspelled.imp_left st.kind.heater_eq.trans
      rw [requestHeat_of_none s.pl hnone, WalkerPos.run_of_none hnone]
      rfl
    · have hsome := st.kind.heater_eq.trans hspelled
      rw [requestHeat_of_some s.pl hsome hmark, WalkerPos.run_of_some hsome]
      rfl

/-! ## Pulses and the end of a step (R100, R101) -/

section
variable {s : State} {p : WalkerPos} {st : ProgStep} {refusal : Bool}

theorem Walker.current_of_walking {pw : Walker} (hwalking : pw.state.walking = true) (hat : pw.atStep = some (p, st)) :
    pw.current = some (p, st) := (if_pos hwalking).trans hat

theorem State.heaterOff_of_current (h : s.pw.current = some (p, st)) :
    s.heaterOff = if p.heaterMark then s.placeHeater ⟨false, false⟩ else s := by
  rw [State.heaterOff, h]
  rfl

/-- The heaters asked off and the STEP-END report, before what follows an ended step. -/
def State.stepEnded (p : WalkerPos) (st : ProgStep) (refusal : Bool) (s : State) : State :=
  let off := if p.heaterMark then s.placeHeater ⟨false, false⟩ else s
  if st.notify = true ∧ refusal = false then off.queueReport .stepEnd s.pw.tag st.kind.code else off

@[simp] theorem State.stepEnded_pw : (s.stepEnded p st refusal).pw = s.pw := by
  simp only [State.stepEnded]
  (repeat' split) <;> simp

theorem State.endStep_eq (h : s.pw.current = some (p, st)) :
    s.endStep refusal = (s.stepEnded p st refusal).afterStep p st := by
  have hdetail : stepEndDetail st.kind false = st.kind.code := rfl
  simp only [State.endStep, h, State.stepEnded, State.heaterOff_pw, hdetail, ← State.heaterOff_of_current h, Bool.and_eq_true,
    Bool.not_eq_true']

theorem State.afterStep_of_revision {plan : Plan} (h : s.pw.revision = some plan) :
    s.afterStep p st = State.buildOrAwait (s.withPw { s.pw with held := some plan, revision := none }) := by
  rw [State.afterStep, h]

theorem State.afterStep_of_last (h : s.pw.revision = none) (hlast : st.last = true) : s.afterStep p st = s.finish p := by
  rw [State.afterStep, h]
  exact if_pos hlast

theorem State.afterStep_of_next {nextStep : ProgStep} (h : s.pw.revision = none) (hlast : st.last = false)
    (hnext : s.pw.steps[p.index + 1]? = some nextStep) : s.afterStep p st = s.changeStep p nextStep := by
  rw [State.afterStep, h, hnext]
  exact if_neg (ne_true_of_eq_false hlast)

theorem State.countPulse_eq (h : s.pw.current = some (p, st)) :
    s.countPulse = if p.carry + 1 < 100 then s.withPw { s.pw with pos := some { p with carry := p.carry + 1 } }
      else
        let counted := s.withPw { s.pw with
          pos := some { p with carry := 0, remaining := p.remaining - 1 }, delivered := raiseTo 65535 s.pw.delivered }
        if p.remaining ≤ 1 then counted.endStep false else counted := by
  have hspent : p.remaining - 1 = 0 ↔ p.remaining ≤ 1 := by omega
  simp only [State.countPulse, h, hspent]

end

/-- Settles O33: a pulse by the carry and the remaining energy, and the end of a step by what follows it. -/
theorem pulsesCountEnergyAndEndSteps : Obligations.PulsesCountEnergyAndEndSteps := by
  refine ⟨fun s => ⟨fun hstill => ?_, fun p st hwalking hat => ?_⟩, fun s p st refusal hwalking hat => ?_⟩
  · have hnone : s.countPulse = s := by rw [State.countPulse, Walker.current_of_still hstill]
    exact congrArg (fun u : State => Host.Outcome.next u.settleLink) hnone
  · have hpulse := State.countPulse_eq (Walker.current_of_walking hwalking hat)
    refine ⟨fun hcarry => ?_, fun hcarry hmore => ?_, fun hcarry hspent => ?_⟩
    · rw [if_pos hcarry] at hpulse
      exact congrArg (fun u : State => Host.Outcome.next u.settleLink) hpulse
    · rw [if_neg (by omega), if_neg (by omega)] at hpulse
      exact congrArg (fun u : State => Host.Outcome.next u.settleLink) hpulse
    · rw [if_neg (by omega), if_pos hspent] at hpulse
      exact congrArg (fun u : State => Host.Outcome.next u.settleLink) hpulse
  · have hend := State.endStep_eq (refusal := refusal) (Walker.current_of_walking hwalking hat)
    refine ⟨fun plan hrevision => ?_, fun hrevision hlast => ?_, fun nextStep hrevision hlast hnext => ?_⟩
    · rw [hend, State.afterStep_of_revision (by rwa [State.stepEnded_pw]), State.stepEnded_pw]
      rfl
    · rw [hend, State.afterStep_of_last (by rwa [State.stepEnded_pw]) hlast, State.finish, State.stepEnded_pw]
      rfl
    · rw [hend, State.afterStep_of_next (by rwa [State.stepEnded_pw]) hlast (by rwa [State.stepEnded_pw]), State.changeStep,
        State.enterStep_withPw, State.stepEnded_pw]
      rfl

end Sys2Proof.Machine
end

section
/-! PROOFS. One computation of the Share Computer (spec sections 4.2, 4.3, 4.6 to 4.8): what it posts, what it reports to the walker, the CLAIM it
queues and what it stores (R53 to R60, R68 to R74). -/

namespace Sys2Proof.Machine

/-! ## The state check and the gate report (R71, R87, R88) -/

/-- `t` is `s` after a state check: the hold causes and the van stay, and Power Stage Control is told what the walker has come to. -/
structure State.Checked (s t : State) : Prop where
  holds : t.pw.holds = s.pw.holds
  van : t.pw.van = s.pw.van
  ps : t.ps = (s.ps.takeView t.pw).judge s.active

section
variable {s : State}

theorem State.tellPower_checked (s : State) : s.Checked s.tellPower := ⟨rfl, rfl, rfl⟩

theorem State.checkAt_checked (p : WalkerPos) (st : ProgStep) (s : State) : s.Checked (State.checkAt p st s) := by
  unfold State.checkAt
  split
  · exact ⟨rfl, rfl, rfl⟩
  · exact ⟨rfl, rfl, rfl⟩

theorem State.stateCheck_checked (s : State) : s.Checked s.stateCheck := by
  unfold State.stateCheck
  split
  · exact State.checkAt_checked _ _ s
  · exact s.tellPower_checked

theorem State.checkWalking_checked (s : State) : s.Checked s.checkWalking := by
  unfold State.checkWalking
  split
  · exact s.stateCheck_checked
  · exact s.tellPower_checked

theorem State.gateReport_checked (closed : Bool) (s : State) :
    State.Checked (s.withPw { s.pw with holds := s.pw.holds.withGate closed }) (s.gateReport closed) := State.checkWalking_checked _

/-! ## Stages 4 and 5: the posting and the gate (R48, R70, R71) -/

/-- The share posted, with the accumulator read and cleared. -/
def State.sharePosted (s : State) : State := (s.withPv s.pv.clearUnlisted).withPs (s.ps.takePosting s.cfg s.expiryShare)

theorem State.expiryPosted_of_noStep (h : s.pw.current = none) : s.expiryPosted = s.sharePosted := by
  rw [State.expiryPosted, State.currentLookup, h]
  rfl

theorem State.expiryPosted_of_step {p : WalkerPos} {st : ProgStep} (h : s.pw.current = some (p, st)) :
    s.expiryPosted = s.sharePosted.gateReport (s.lookup st.kind).gateClosed := by
  rw [State.expiryPosted, State.currentLookup, h]
  rfl

/-- The target, the shed hold and the van are the posting's, whatever the gate does. -/
theorem State.expiryPosted_kept (s : State) : s.expiryPosted.ps.target = s.expiryShare ∧ s.expiryPosted.ps.shedHold = s.ps.shedHold - 1
    ∧ s.expiryPosted.pw.tag = s.pw.tag := by
  cases h : s.pw.current with
  | none =>
    rw [State.expiryPosted_of_noStep h]
    exact ⟨rfl, rfl, rfl⟩
  | some at_ =>
    obtain ⟨p, st⟩ := at_
    have hchecked := State.gateReport_checked (s.lookup st.kind).gateClosed s.sharePosted
    rw [State.expiryPosted_of_step h, hchecked.ps, Walker.tag, hchecked.van]
    exact ⟨PowerStage.judge_target, PowerStage.judge_shedHold, rfl⟩

/-! ## Stage 6: the CLAIM in the queue (R21, R74) -/

/-- The one CLAIM among the queued frames is `c`. -/
structure Announces (c : ClaimContents) (frames : List OwnFrame) : Prop where
  queued : .claim c ∈ frames
  only : ∀ y, .claim y ∈ frames → y = c

theorem QueueEntry.replaceClaim_frame_eq (c : ClaimContents) (e : QueueEntry) :
    (e.replaceClaim c).frame = if e.isClaim then .claim c else e.frame := by
  unfold QueueEntry.replaceClaim
  split <;> rfl

theorem QueueEntry.isClaim_of_frame {e : QueueEntry} {y : ClaimContents} (h : e.frame = .claim y) : e.isClaim = true := by
  rw [QueueEntry.isClaim, h]

/-- A CLAIM queued is the only one there: it takes the place of an older one (R21). -/
theorem announces_queueFrame (c : ClaimContents) (q : List QueueEntry) : Announces c ((queueFrame (.claim c) q).map QueueEntry.frame) := by
  by_cases hany : q.any QueueEntry.isClaim = true
  · rw [queueFrame, if_pos hany, List.map_map]
    obtain ⟨e, hmem, hclaim⟩ := List.any_eq_true.mp hany
    refine ⟨List.mem_map.mpr ⟨e, hmem, by simp [QueueEntry.replaceClaim_frame_eq, hclaim]⟩, fun y hy => ?_⟩
    obtain ⟨x, -, hx⟩ := List.mem_map.mp hy
    rw [Function.comp_apply, QueueEntry.replaceClaim_frame_eq] at hx
    split at hx
    · exact (OwnFrame.claim.inj hx).symm
    · next hother => exact absurd (QueueEntry.isClaim_of_frame hx) hother
  · have habsent : ∀ x ∈ q, ∀ y, x.frame ≠ .claim y := fun x hx y hy => hany (List.any_eq_true.mpr ⟨x, hx, QueueEntry.isClaim_of_frame hy⟩)
    rw [queueFrame_claim_of_absent c habsent, List.map_cons]
    refine ⟨List.mem_cons_self, fun y hy => ?_⟩
    rcases List.mem_cons.mp hy with hfresh | hold
    · exact OwnFrame.claim.inj hfresh
    · obtain ⟨x, hx, hframe⟩ := List.mem_map.mp hold
      exact absurd hframe (habsent x ((displace_sublist q).subset hx) y)

theorem mem_displace_of_isClaim {q : List QueueEntry} {e : QueueEntry} (hmem : e ∈ q) (h : e.isClaim = true) : e ∈ displace q := by
  unfold displace
  split
  · exact hmem
  · exact (List.mem_eraseP_of_neg (by simp [QueueEntry.displaceable, h])).mpr hmem

/-- A REPORT queued behind it leaves the CLAIM as it is (R23). -/
theorem Announces.queueReport {c : ClaimContents} {q : List QueueEntry} (h : Announces c (q.map QueueEntry.frame)) (r : ReportContents) :
    Announces c ((queueFrame (.report r) q).map QueueEntry.frame) := by
  rw [queueFrame_report, List.map_append]
  refine ⟨List.mem_append_left _ ?_, fun y hy => ?_⟩
  · obtain ⟨e, hmem, hframe⟩ := List.mem_map.mp h.queued
    exact List.mem_map.mpr ⟨e, mem_displace_of_isClaim hmem (QueueEntry.isClaim_of_frame hframe), hframe⟩
  · rcases List.mem_append.mp hy with hold | hfresh
    · exact h.only y (((displace_sublist q).map QueueEntry.frame).subset hold)
    · simp [QueueEntry.fresh] at hfresh

theorem State.enqueue_announces (c : ClaimContents) (s : State) : Announces c ((s.enqueue (.claim c)).li.queue.map QueueEntry.frame) := by
  rw [State.enqueue, State.trySend_map_frame, State.withLi_li]
  exact announces_queueFrame c s.li.queue

theorem State.queueReport_announces {c : ClaimContents} (h : Announces c (s.li.queue.map QueueEntry.frame)) (kind : ReportKind) (tag : VanTag)
    (detail : Nat) : Announces c ((s.queueReport kind tag detail).li.queue.map QueueEntry.frame) := by
  unfold State.queueReport
  split
  · rw [State.enqueue, State.trySend_map_frame, State.withLi_li]
    exact h.queueReport _
  · exact h

/-- The CLAIM queued, and an at-risk notice where the flag has turned on (R74, R106). -/
theorem State.expiryAnnounce_announces (c : ClaimContents) (turnedOn : Bool) (s : State) :
    Announces c ((s.expiryAnnounce c turnedOn).li.queue.map QueueEntry.frame) := by
  unfold State.expiryAnnounce
  split
  · exact State.queueReport_announces (s.enqueue_announces c) _ _ _
  · exact s.enqueue_announces c

theorem State.expiryAnnounce_notice (c : ClaimContents) (h : s.sl.config = .active) :
    ∃ e ∈ (s.expiryAnnounce c true).li.queue, e.frame = .report ⟨.atRisk, s.pw.tag, c.forecast, s.dc.reportMinute⟩ := by
  have hnotice := (s.enqueue (.claim c)).queueReport_mem .atRisk (s.enqueue (.claim c)).pw.tag c.forecast (by simpa using h)
  rw [State.enqueue_dc] at hnotice
  simpa [State.expiryAnnounce, State.atRiskNotice] using hnotice

/-! ## The contents of the CLAIM (R72 to R74) -/

theorem DepotClock.claimTime_eq (dc : DepotClock) : dc.claimTime = if dc.source = .unset then 0xFFFFFF else dc.time := by
  unfold DepotClock.claimTime
  cases hset : dc.isSet with
  | false => simp [dc.isSet_eq_false_iff.mp hset]
  | true => simp [dc.isSet_eq_true_iff.mp hset]

theorem forecastOf_eq (dc : DepotClock) (now total setpoint : Nat) : forecastOf dc.isSet now total setpoint =
    if dc.source = .unset ∨ setpoint = 0 then 0xFFFF else min (now + (total * 60 + (setpoint - 1)) / setpoint) 1439 := by
  simp only [forecastOf, dc.isSet_eq_false_iff, divUp]

/-- A conflict hold leaves no share to post (R58, R64, R68). -/
theorem State.expiryShare_of_conflict (h : 0 < s.sc.conflictHold) : s.expiryShare = 0 := by
  have hclaim : s.expiryClaim.claimant = false := by
    rw [State.expiryClaim, ownClaimOf_of_nonClaimant (.inr (.inl h))]
    rfl
  exact ownShare_of_nonClaimant hclaim

/-! ## CLAIM_PERIOD_EXPIRY (R53, R54) -/

/-- What the expiry leaves of the line, and of the blocks the announcement does not reach. -/
theorem State.claimPeriod_li (s : State) : s.claimPeriod.li = (s.expiryPosted.expiryAnnounce (s.expiryContents s.expiryPosted.ps.setpoint)
    (s.expiryClaim.atRisk && !s.sc.own.atRisk)).li := rfl

theorem State.claimPeriod_ps (s : State) : s.claimPeriod.ps = s.expiryPosted.ps := by simp [State.claimPeriod]

theorem State.claimPeriod_sc (s : State) : s.claimPeriod.sc = s.expiryStore := rfl

theorem exec_claimPeriodExpiry (h : s.sc.claimTimer.isRunning = true) : exec .claimPeriodExpiry s = .next s.claimPeriod.settleLink :=
  congrArg Host.Outcome.next (if_pos h)

end

/-- Settles O27, stage by stage of R54. -/
theorem claimPeriodExpiryPostsClaimsAndStores : Obligations.ClaimPeriodExpiryPostsClaimsAndStores := by
  intro s htimer
  obtain ⟨htarget, hshed, htag⟩ := s.expiryPosted_kept
  have hps : s.claimPeriod.settleLink.ps = s.expiryPosted.ps := by rw [State.settleLink_ps, State.claimPeriod_ps]
  have hpw : s.claimPeriod.settleLink.pw = s.expiryPosted.pw := by rw [State.settleLink_pw, State.claimPeriod_pw]
  refine ⟨s.claimPeriod.settleLink, exec_claimPeriodExpiry htimer, hps ▸ htarget, hps ▸ hshed, fun hconflict => ?conflict, ?view, ?store,
    by simp, by simp, by simp, fun p st hcurrent => ?gate, fun hcurrent => ?walker, ⟨fun hcurrent => ?posted, fun p st hcurrent => ?told⟩, ?queue⟩
  case conflict => rw [hps, htarget, State.expiryShare_of_conflict hconflict]
  case view =>
    rw [State.settleLink_pv, State.claimPeriod_pv]
    rfl
  case store =>
    rw [State.settleLink_sc, State.claimPeriod_sc]
    rfl
  case gate =>
    rw [hpw, State.expiryPosted_of_step hcurrent, (State.gateReport_checked _ s.sharePosted).holds]
    rfl
  case walker =>
    rw [hpw, State.expiryPosted_of_noStep hcurrent]
    rfl
  case posted =>
    rw [hps, State.expiryPosted_of_noStep hcurrent]
    rfl
  case told =>
    rw [hps, hpw, State.expiryPosted_of_step hcurrent, (State.gateReport_checked _ s.sharePosted).ps]
    rfl
  case queue =>
    intro contents
    have hcontents : s.expiryContents s.expiryPosted.ps.setpoint = contents := by
      simp only [State.expiryContents, DepotClock.claimTime_eq, forecastOf_eq, ← hps]
      rfl
    have hli : s.claimPeriod.settleLink.li = (s.expiryPosted.expiryAnnounce contents (s.expiryClaim.atRisk && !s.sc.own.atRisk)).li := by
      rw [State.settleLink_li, State.claimPeriod_li, hcontents]
    have hannounced := s.expiryPosted.expiryAnnounce_announces contents (s.expiryClaim.atRisk && !s.sc.own.atRisk)
    rw [hli]
    refine ⟨List.mem_map.mp hannounced.queued, fun e hmem c hframe => hannounced.only c (List.mem_map.mpr ⟨e, hmem, hframe⟩),
      fun hactive hrisk hbefore => ?_⟩
    have hnotice := s.expiryPosted.expiryAnnounce_notice contents (by simpa [State.expiryPosted] using hactive)
    rw [htag] at hnotice
    simpa [hrisk, hbefore, State.expiryPosted] using hnotice

end Sys2Proof.Machine
end

section
/-! PROOFS. What the Programme Walker makes of plans, cancels and vans (spec sections 6.4, 6.6): received PLANs and CANCELs, the default plan, and the
vans that come and go (R89 to R92, R96 to R99). -/

namespace Sys2Proof.Machine

/-! ## The fields of a PLAN and a CANCEL (R159) -/

theorem toNat_append_byte {w : Nat} (x : BitVec w) (b : Byte) : (x ++ b).toNat = b.toNat + 256 * x.toNat := by
  rw [BitVec.toNat_append, ← Nat.shiftLeft_add_eq_or_of_lt b.isLt, Nat.shiftLeft_eq]
  omega

/-- A tag of six bytes, least significant first. -/
theorem tag_of_leNat (v0 v1 v2 v3 v4 v5 : Byte) : BitVec.ofNat 48 (leNat [v0, v1, v2, v3, v4, v5]) = v5 ++ v4 ++ v3 ++ v2 ++ v1 ++ v0 := by
  have hvalue : leNat [v0, v1, v2, v3, v4, v5] = (v5 ++ v4 ++ v3 ++ v2 ++ v1 ++ v0).toNat := by
    simp only [toNat_append_byte, leNat]
    omega
  rw [hvalue]
  simp

/-! ## The verdict on a plan (R96) -/

/-- A plan of the attached van, which R96 judges. -/
structure Walker.Judges (pw : Walker) (plan : Plan) (van : AttachedVan) : Prop where
  state : pw.state ≠ .empty
  attached : pw.van = some van
  named : van.tag = plan.tag

section
variable {s : State} {pw : Walker} {plan : Plan} {van : AttachedVan} {tag : VanTag} {serial capacity : Nat}

theorem notNewer_iff (serial : Nat) (p : Option Plan) : notNewer serial p = true ↔ ∃ q, p = some q ∧ serial ≤ q.serial := by
  unfold notNewer
  cases p <;> simp

theorem Walker.tag_of_van (h : pw.van = some van) : pw.tag = van.tag := by rw [Walker.tag, h]

theorem Walker.judgePlan_of_empty (h : pw.state = .empty) : pw.judgePlan plan = .ignored := if_pos (.inl h)

theorem Walker.judgePlan_of_other (hvan : pw.van = some van) (htag : van.tag ≠ plan.tag) : pw.judgePlan plan = .ignored :=
  if_pos (.inr (by simpa [hvan] using htag))

theorem Walker.Judges.notIgnored (h : pw.Judges plan van) : ¬ (pw.state = .empty ∨ pw.van.map AttachedVan.tag ≠ some plan.tag) := by
  simp [h.state, h.attached, h.named]

theorem Walker.Judges.refused (h : pw.Judges plan van) (hminute : 1440 ≤ plan.departure) : pw.judgePlan plan = .refusedMinute := by
  rw [Walker.judgePlan, if_neg h.notIgnored, if_pos hminute]

/-- Outside ABORTED a plan is compared with the plans held. -/
theorem Walker.Judges.compared (h : pw.Judges plan van) (hminute : plan.departure < 1440) (hstate : pw.state ≠ .aborted) :
    ((∃ q : Plan, (pw.held = some q ∨ pw.revision = some q) ∧ plan.serial ≤ q.serial) → pw.judgePlan plan = .ignored)
      ∧ ((¬ ∃ q : Plan, (pw.held = some q ∨ pw.revision = some q) ∧ plan.serial ≤ q.serial) → pw.judgePlan plan = .taken) := by
  have holder : (notNewer plan.serial pw.held || notNewer plan.serial pw.revision) = true ↔
      ∃ q : Plan, (pw.held = some q ∨ pw.revision = some q) ∧ plan.serial ≤ q.serial := by
    simp only [Bool.or_eq_true, notNewer_iff, or_and_right, exists_or]
  rw [Walker.judgePlan, if_neg h.notIgnored, if_neg (by omega), if_pos hstate, ← holder]
  exact ⟨fun hold => if_pos hold, fun hnew => if_neg hnew⟩

/-- In ABORTED a plan is compared with the serial cancelled. -/
theorem Walker.Judges.comparedCancelled (h : pw.Judges plan van) (hminute : plan.departure < 1440) (hstate : pw.state = .aborted) :
    ((∃ n, pw.cancelled = some n ∧ plan.serial ≤ n) → pw.judgePlan plan = .ignored)
      ∧ ((¬ ∃ n, pw.cancelled = some n ∧ plan.serial ≤ n) → pw.judgePlan plan = .taken) := by
  rw [Walker.judgePlan, if_neg h.notIgnored, if_neg (by omega), if_neg (not_not.mpr hstate)]
  cases pw.cancelled <;> simp

/-! ## Plans taken (R97) -/

theorem State.judgePlan_of_ignored (h : s.pw.judgePlan plan = .ignored) : s.judgePlan plan = s := by rw [State.judgePlan, h]

theorem State.judgePlan_of_refused (h : s.pw.judgePlan plan = .refusedMinute) :
    s.judgePlan plan = s.queueReport .planRefused s.pw.tag plan.serial := by rw [State.judgePlan, h]

theorem State.judgePlan_of_taken (h : s.pw.judgePlan plan = .taken) : s.judgePlan plan = s.takePlan plan := by rw [State.judgePlan, h]

theorem State.takePlan_of_running (h : s.pw.state = .running) : s.takePlan plan = State.queueReport .planTaken s.pw.tag plan.serial
    (s.withPw { s.pw with revision := some { plan with target := min plan.target 1000 } }) := if_pos h

theorem State.takePlan_of_still (h : s.pw.state ≠ .running) :
    s.takePlan plan = State.buildOrAwait (State.queueReport .planTaken s.pw.tag plan.serial (s.withPw { s.pw with
      held := some { plan with target := min plan.target 1000 }, revision := none, cancelled := none, defaultTimer := .stopped })) := if_neg h

theorem State.ReceivingActive.exec_planReceived {check : Byte} (h : s.ReceivingActive)
    (hcompletes : completesFrame 3 s.li.rxBuffer check = true) : exec (.planReceived check) s = .next (State.settleLink
      (State.judgePlan (readPlan s.li.rxBuffer) ((s.acceptFrame check).offerAnchor (readPlanTime s.li.rxBuffer)))) :=
  congrArg Host.Outcome.next (h.handed hcompletes)

end

/-- Settles O34: the verdict of R96, and what R97 does with a plan taken. -/
theorem plansAreJudgedAndTaken : Obligations.PlansAreJudgedAndTaken := by
  refine ⟨fun h k n t0 t1 t2 v0 v1 v2 v3 v4 v5 n0 n1 d0 d1 g0 g1 f => ⟨?time, ?plan⟩,
    fun s check hconfig hline hcompletes => State.ReceivingActive.exec_planReceived ⟨hconfig, hline⟩ hcompletes, fun s plan van => ?_⟩
  case time =>
    simp only [readPlanTime, framePayload, fieldAt, List.drop, List.take, leNat]
    omega
  case plan =>
    simp only [readPlan, framePayload, fieldAt, flagAt, byteAt, List.drop, List.take, List.getD_cons_succ, List.getD_cons_zero, tag_of_leNat]
    rfl
  refine ⟨fun hempty => State.judgePlan_of_ignored (Walker.judgePlan_of_empty hempty),
    fun hvan htag => State.judgePlan_of_ignored (Walker.judgePlan_of_other hvan htag), fun hstate hvan htag => ?_⟩
  intro older undone kept
  have hjudges : s.pw.Judges plan van := ⟨hstate, hvan, htag⟩
  have hkept : { plan with target := min plan.target 1000 } = kept := by rw [← clamp_eq_min]
  rw [← Walker.tag_of_van hvan, ← hkept]
  refine ⟨fun hminute => State.judgePlan_of_refused (hjudges.refused hminute), fun hminute haborted holder => ?_,
    fun hminute haborted hundone => ?_, fun hminute hrunning hnewer => ?_, fun hminute hstill hnewer => ?_⟩
  · exact State.judgePlan_of_ignored ((hjudges.compared hminute haborted).1 holder)
  · exact State.judgePlan_of_ignored ((hjudges.comparedCancelled hminute haborted).1 hundone)
  · have htaken := (hjudges.compared hminute (by simp [hrunning])).2 hnewer
    rw [State.judgePlan_of_taken htaken, State.takePlan_of_running hrunning]
  · have htaken : s.pw.judgePlan plan = .taken := by
      rcases hnewer with ⟨haborted, hnewer⟩ | ⟨haborted, hnewer⟩
      · exact (hjudges.compared hminute haborted).2 hnewer
      · exact (hjudges.comparedCancelled hminute haborted).2 hnewer
    rw [State.judgePlan_of_taken htaken, State.takePlan_of_still hstill]

/-! ## Cancels and the default plan (R98, R99) -/

section
variable {s : State} {plan : Plan} {van : AttachedVan} {tag : VanTag} {serial capacity : Nat}

theorem State.takeCancel_of_taken (hvan : s.pw.van = some van) (hheld : s.pw.held = some plan) (htag : van.tag = tag)
    (hserial : plan.serial ≤ serial) :
    s.takeCancel tag serial = State.queueReport .cancelled van.tag 0 (State.tellPower (s.heaterOff.withPw { s.pw with
      state := .aborted, held := none, revision := none, cancelled := some serial, steps := [], pos := none,
      defaultTimer := .stopped, holds := { s.pw.holds with gateClosed := false } })) := by
  have htakes : s.pw.takesCancel tag serial = true := by simp [Walker.takesCancel, hheld, hvan, htag, hserial]
  simp only [State.takeCancel, if_pos htakes, State.heaterOff_pw, Walker.tag_of_van hvan]
  rfl

theorem State.takeCancel_of_ignored
    (h : s.pw.held = none ∨ s.pw.van.map AttachedVan.tag ≠ some tag ∨ (∃ plan, s.pw.held = some plan ∧ serial < plan.serial)) :
    s.takeCancel tag serial = s := by
  refine if_neg ?_
  unfold Walker.takesCancel
  split
  · next plan hheld =>
    rw [decide_eq_true_iff]
    rintro ⟨htag, hserial⟩
    rcases h with h | h | ⟨other, hother, hnewer⟩
    · simp [h] at hheld
    · exact h htag
    · obtain rfl : plan = other := by simpa [hheld] using hother
      omega
  · simp

theorem State.ReceivingActive.exec_cancelReceived {check : Byte} (h : s.ReceivingActive)
    (hcompletes : completesFrame 4 s.li.rxBuffer check = true) : exec (.cancelReceived check) s = .next (State.settleLink
      ((s.acceptFrame check).takeCancel (readCancelTag s.li.rxBuffer) (readCancelSerial s.li.rxBuffer))) :=
  congrArg Host.Outcome.next (h.handed hcompletes)

theorem exec_defaultPlanTimerExpiry (hrunning : s.pw.defaultTimer.isRunning = true) (hstate : s.pw.state = .awaiting)
    (hheld : s.pw.held = none) : exec .defaultPlanTimerExpiry s = .next s.adoptDefault.settleLink :=
  congrArg Host.Outcome.next (if_pos (by simp [hrunning, hstate, hheld]))

end

/-- Settles O35: by whether the CANCEL names the attached van and the plan held. -/
theorem cancelsAndTheDefaultPlan : Obligations.CancelsAndTheDefaultPlan := by
  refine ⟨fun h k n v0 v1 v2 v3 v4 v5 n0 n1 => ⟨?tag, ?serial⟩, fun s check hconfig hline hcompletes => ?_,
    fun s van hstate hheld hvan hrunning => ?_⟩
  case tag => simp only [readCancelTag, framePayload, fieldAt, List.drop, List.take, tag_of_leNat]
  case serial => simp only [readCancelSerial, framePayload, fieldAt, List.drop, List.take, leNat, Nat.mul_zero, Nat.add_zero]
  · intro counted tag serial
    have hexec := State.ReceivingActive.exec_cancelReceived ⟨hconfig, hline⟩ hcompletes
    refine ⟨fun van plan hvan hheld htag hserial => ?_, fun hignored => ?_⟩
    · exact hexec.trans (congrArg (fun u : State => Host.Outcome.next u.settleLink)
        (State.takeCancel_of_taken (s := counted) hvan hheld htag hserial))
    · exact hexec.trans (congrArg (fun u : State => Host.Outcome.next u.settleLink) (State.takeCancel_of_ignored (s := counted) hignored))
  · rw [exec_defaultPlanTimerExpiry hrunning hstate hheld, State.adoptDefault, defaultPlan, Walker.tag_of_van hvan]

/-! ## Vans (R89 to R91) -/

section
variable {s : State} {tag : VanTag} {capacity : Nat}

theorem State.vanIdentified_of_empty (h : s.pw.state = .empty) : s.vanIdentified tag capacity = s.freshArrival tag capacity := if_pos h

theorem State.differentVan_of_empty (h : s.pw.state = .empty) : s.differentVan tag capacity = s.freshArrival tag capacity := if_pos h

theorem State.differentVan_of_van (h : s.pw.state ≠ .empty) :
    s.differentVan tag capacity = State.freshArrival tag capacity (State.tellPower ((s.queueReport .departed s.pw.tag s.pw.delivered).withPw
      { s.pw.clearPlans with state := .empty, van := none, status := none })) := by
  simp only [State.differentVan, if_neg h, State.queueReport_pw]

theorem State.setHolds_of_walking (h : s.pw.state.walking = true) (holds : HoldSet) :
    s.setHolds holds = State.stateCheck (s.withPw { s.pw with holds := holds }) := if_pos h

theorem State.setHolds_of_still (h : s.pw.state.walking = false) (holds : HoldSet) :
    s.setHolds holds = State.tellPower (s.withPw { s.pw with holds := holds }) := if_neg (ne_true_of_eq_false h)

end

/-- Settles O36: by the walker's state, with a change of the hold set checked in the walking states alone. -/
theorem vansComeAndGoAtTheWalker : Obligations.VansComeAndGoAtTheWalker := by
  intro s tag capacity arrival
  refine ⟨fun hempty => ⟨State.vanIdentified_of_empty hempty, State.differentVan_of_empty hempty⟩, State.differentVan_of_van,
    fun hwalking => State.setHolds_of_walking (s := s.placeStatus) hwalking _, fun hwalking hvan => ?_,
    fun hstill => State.setHolds_of_still (s := s.placeStatus) hstill _, fun hstill hvan => ?_, fun hnone => ?_, fun u => rfl⟩
  · exact (if_pos hvan).trans (State.setHolds_of_walking hwalking _)
  · exact (if_pos hvan).trans (State.setHolds_of_still hstill _)
  · exact State.linkLostReport_of_noVan s (by simp [hnone])

end Sys2Proof.Machine
end

section
/-! PROOFS. The plug link (spec sections 7.2 to 7.4, 7.6, 7.7, 11.2): plug detect, link resets, replies as read and judged, and the request set (R110,
R111, R113 to R117, R122, R124 to R127). -/

namespace Sys2Proof.Machine

/-! ## Plug detect (R111, R113) -/

/-- Settles O37. -/
theorem plugContactAndPlugClosed : Obligations.PlugContactAndPlugClosed := by
  intro s
  refine ⟨fun b hactive hcontact => ?_, fun hsettle hcontact hopen => ?_⟩
  · have hchanges : (s.active && s.pl.contact.isSome && decide (s.pl.contact ≠ some b)) = true := by
      simp [State.active, hactive, hcontact]
    simp only [exec, execPlugContactChange, if_pos hchanges, eq_comm (a := b)]
  · have hcloses : s.pl.settlesTo true = true := PlugLink.settlesTo_iff.mpr ⟨hsettle, hcontact, by simp [hopen]⟩
    exact congrArg Host.Outcome.next (if_pos hcloses)

/-! ## Link resets (R114, R122, R124) -/

theorem presenceSeen_iff (fellAt : Option Nat) (high : Bool) :
    presenceSeen fellAt high = true ↔ ∃ n, fellAt = some n ∧ 60 ≤ n ∧ n ≤ 240 ∧ high = true := by
  unfold presenceSeen
  cases fellAt <;> simp [and_assoc]

/-- A link reset on the line, with its result and the link's state when it comes. -/
structure PlugLink.ResetIn (pl : PlugLink) (link : LinkState) : Prop where
  onLine : pl.resetOnLine = true
  link : pl.link = link

section
variable {s : State} {fellAt : Option Nat} {high : Bool}

theorem exec_linkResetResult_resetting (h : s.pl.ResetIn .resetting) : exec (.linkResetResult fellAt high) s = .next
    (if presenceSeen fellAt high then
      s.withPl { s.pl.writeCommand .ident with resetOnLine := false, misses := 0, link := .identifying }
    else s.resetMissed) := by
  simp only [exec, execLinkResetResult, if_pos h.onLine, if_pos h.link]

theorem exec_linkResetResult_lost (h : s.pl.ResetIn .lost) : exec (.linkResetResult fellAt high) s = .next
    (if presenceSeen fellAt high then s.withPl { s.pl.writeCommand .ident with resetOnLine := false }
    else s.withPl { s.pl with resetOnLine := false, output := .released }) := by
  simp only [exec, execLinkResetResult, if_pos h.onLine, if_neg (show ¬ s.pl.link = .resetting by simp [h.link]), if_pos h.link]

theorem State.resetMissed_of_retry (h : s.pl.misses + 1 ≤ 5) : s.resetMissed = s.withPl { s.pl with
    resetOnLine := false, output := .released, misses := s.pl.misses + 1, resetWait := .running 1000 } := if_pos h

theorem State.resetMissed_of_lost (h : ¬ s.pl.misses + 1 ≤ 5) : s.resetMissed = State.enterLost (s.withPl { s.pl with
    resetOnLine := false, output := .released, misses := s.pl.misses + 1 }) := if_neg h

end

/-- Settles O39: by the link's state and whether the watch found presence. -/
theorem linkResetsFindPresence : Obligations.LinkResetsFindPresence := by
  intro s
  refine ⟨fun fellAt high honLine => ?_, fun hlink hwait => ?_, fun hlink hrecovery => ?_⟩
  · intro present ended asked
    have hpresent : present → presenceSeen fellAt high = true := (presenceSeen_iff fellAt high).mpr
    have habsent : ¬ present → ¬ presenceSeen fellAt high = true := fun h hseen => h ((presenceSeen_iff fellAt high).mp hseen)
    refine ⟨fun hlink h => ?_, fun hlink h hretry => ?_, fun hlink h hsixth => ?_, fun hlink h => ?_, fun hlink h => ?_⟩
    · rw [exec_linkResetResult_resetting ⟨honLine, hlink⟩, if_pos (hpresent h)]
      rfl
    · rw [exec_linkResetResult_resetting ⟨honLine, hlink⟩, if_neg (habsent h), State.resetMissed_of_retry hretry]
    · rw [exec_linkResetResult_resetting ⟨honLine, hlink⟩, if_neg (habsent h), State.resetMissed_of_lost (by omega)]
    · rw [exec_linkResetResult_lost ⟨honLine, hlink⟩, if_pos (hpresent h)]
      rfl
    · rw [exec_linkResetResult_lost ⟨honLine, hlink⟩, if_neg (habsent h)]
  · have hsends : (s.pl.resetWait.isRunning && decide (s.pl.link = .resetting)) = true := by simp [hlink, hwait]
    exact congrArg Host.Outcome.next (if_pos hsends)
  · have hsends : (s.pl.recoveryTimer.isRunning && decide (s.pl.link = .lost)) = true := by simp [hlink, hrecovery]
    exact congrArg Host.Outcome.next (if_pos hsends)

/-! ## Replies (R115 to R117) -/

theorem LinkCommand.readSlots_eq (cmd : LinkCommand) (status : Byte) : cmd.readSlots status =
    if status = 0x5A#8 then (match cmd with | .ident => 97 | .status => 65 | .heater _ => 9) else 9 := by
  cases cmd <;> simp [LinkCommand.readSlots, LinkCommand.replyBytes]

/-- IDENT and STATUS have reply data, and a check byte with it (R116). -/
theorem LinkCommand.replyBytes_eq_zero_iff (cmd : LinkCommand) : cmd.replyBytes = 0 ↔ ¬ (cmd = .ident ∨ cmd = .status) := by
  cases cmd <;> simp [LinkCommand.replyBytes]

section
variable {cmd : LinkCommand} {r : LinkReply}

theorem judgeReply_of_stop (h : r.stopSlot = true) : judgeReply cmd r = .bad := if_pos h

theorem judgeReply_of_ok (hstop : r.stopSlot = false) (hstatus : r.status = 0x5A#8) :
    judgeReply cmd r = if cmd.replyBytes = 0 ∨ crc8 (r.status :: r.data) = r.check then .valid else .bad := by
  rw [judgeReply, if_neg (ne_true_of_eq_false hstop), if_pos hstatus]

theorem judgeReply_of_other (hstop : r.stopSlot = false) (hstatus : r.status ≠ 0x5A#8) :
    judgeReply cmd r = if r.status = 0x3C#8 then .busy else if r.status = 0x66#8 then .refused else .bad := by
  rw [judgeReply, if_neg (ne_true_of_eq_false hstop), if_neg hstatus]

end

/-- Settles O41: a reply is read from its slots as written, and judged by the first case of R117. -/
theorem repliesAreJudged : Obligations.RepliesAreJudged := by
  refine ⟨⟨writeSlots_nil, writeSlots_cons⟩, fun status stop r hslots => ?_, fun status data check stop r hslots => ?_,
    fun cmd r => ?_, fun cmd r => ?_⟩
  · obtain ⟨slots⟩ := r
    obtain rfl : slots = _ := hslots
    exact LinkReply.short_spec status stop
  · exact LinkReply.long_spec status data check stop r (by simpa using hslots)
  · exact decide_eq_true_iff.trans (iff_of_eq (congrArg (r.slots.length = ·) (cmd.readSlots_eq r.status)))
  · intro checked
    refine ⟨judgeReply_of_stop, fun hstop => ⟨fun hok hbusy hrefused => ?_, fun hok hchecked hcheck => ?_, fun hbusy => ?_,
      fun hrefused => ?_, fun hok hgood => ?_⟩⟩
    · rw [judgeReply_of_other hstop hok, if_neg hbusy, if_neg hrefused]
    · rw [judgeReply_of_ok hstop hok, if_neg (not_or.mpr ⟨mt cmd.replyBytes_eq_zero_iff.mp (not_not.mpr hchecked), hcheck⟩)]
    · rw [judgeReply_of_other hstop (by simp [hbusy]), if_pos hbusy]
    · rw [judgeReply_of_other hstop (by simp [hrefused]), if_neg (by simp [hrefused]), if_pos hrefused]
    · rw [judgeReply_of_ok hstop hok, if_pos (hgood.imp_left cmd.replyBytes_eq_zero_iff.mpr)]

/-! ## The request set (R125, R126) -/

section
variable {s : State}

theorem State.placeHeater_of_plugged (heaters : Heaters) (h : s.pl.link ≠ .unplugged) :
    s.placeHeater heaters = s.withPl { s.pl with wantHeater := some heaters } := congrArg s.withPl (if_neg h)

theorem State.placeHeater_of_unplugged (heaters : Heaters) (h : s.pl.link = .unplugged) : s.placeHeater heaters = s :=
  congrArg s.withPl (if_pos h)

theorem State.placeStatus_of_due (hlink : s.pl.link ≠ .unplugged) (hfree : s.pl.exchange.map Exchange.command ≠ some .status) :
    s.placeStatus = s.withPl { s.pl with wantStatus := true } := congrArg s.withPl (if_neg (not_or.mpr ⟨hlink, hfree⟩))

theorem State.placeStatus_of_merged (h : s.pl.link = .unplugged ∨ s.pl.exchange.map Exchange.command = some .status) : s.placeStatus = s :=
  congrArg s.withPl (if_pos h)

/-- The settings byte of a HEATER command (R160). -/
theorem heaterByte_eq (h : Heaters) : BitVec.ofNat 8 (bitWeight h.pack 0 + bitWeight h.cabin 1)
    = (if h.pack then 1#8 else 0#8) ||| if h.cabin then 2#8 else 0#8 := by
  obtain ⟨pack, cabin⟩ := h
  cases pack <;> cases cabin <;> rfl

theorem PlugLink.beginExchange_of_heater {pl : PlugLink} {h : Heaters} (hready : pl.link = .ready ∧ pl.pause.isRunning = false)
    (hheater : pl.wantHeater = some h) :
    pl.beginExchange = { pl.writeCommand (.heater h) with link := .exchange, wantHeater := none } := by
  rw [PlugLink.beginExchange, if_pos hready, hheater]

theorem PlugLink.beginExchange_of_noHeater {pl : PlugLink} (hready : pl.link = .ready ∧ pl.pause.isRunning = false)
    (hheater : pl.wantHeater = none) :
    pl.beginExchange = if pl.wantStatus then { pl.writeCommand .status with link := .exchange, wantStatus := false } else pl := by
  rw [PlugLink.beginExchange, if_pos hready, hheater]

theorem State.settleLink_of_pl {pl : PlugLink} (h : s.pl.beginExchange = pl) : s.settleLink = s.withPl pl := congrArg s.withPl h

end

/-- Settles O46: by what stands in the set and the state of the link. -/
theorem requestsBeginExchanges : Obligations.RequestsBeginExchanges := by
  refine ⟨fun s h => ⟨State.placeHeater_of_plugged h, State.placeStatus_of_due, fun hstatus => State.placeStatus_of_merged (.inr hstatus),
    fun hlink => ⟨State.placeHeater_of_unplugged h hlink, State.placeStatus_of_merged (.inl hlink)⟩⟩, fun s => ?_⟩
  intro settings
  refine ⟨fun hlink hpause => ⟨fun h hheater => ?heater, fun hheater hstatus => ?status, fun hheater hstatus => ?none⟩, fun hnot => ?barred,
    fun e hexchange hwait => ?repoll, fun hpause => ?pause, fun hpoll hlink => ?poll⟩
  case heater =>
    rw [State.settleLink_of_pl (PlugLink.beginExchange_of_heater ⟨hlink, hpause⟩ hheater), PlugLink.writeCommand, LinkCommand.slots,
      LinkCommand.bytes, heaterByte_eq]
  case status =>
    rw [State.settleLink_of_pl (PlugLink.beginExchange_of_noHeater ⟨hlink, hpause⟩ hheater), if_pos hstatus]
    rfl
  case none =>
    rw [State.settleLink_of_pl (PlugLink.beginExchange_of_noHeater ⟨hlink, hpause⟩ hheater), if_neg (ne_true_of_eq_false hstatus),
      State.withPl_self]
  case barred =>
    have hbarred : ¬ (s.pl.link = .ready ∧ s.pl.pause.isRunning = false) := by
      rintro ⟨hready, hdone⟩
      rcases hnot with h | h
      · exact h hready
      · simp [h] at hdone
    rw [State.settleLink_of_pl (if_neg hbarred), State.withPl_self]
  case repoll =>
    simp only [exec, execBusyRepollWaitExpiry, hexchange, if_pos hwait]
    rfl
  case pause => exact congrArg Host.Outcome.next (if_pos hpause)
  case poll =>
    have hplaced : { s.pl.placeStatus with pollTimer := .running 10000 } = { s.pl with
        pollTimer := .running 10000
        wantStatus := s.pl.wantStatus || decide (s.pl.exchange.map Exchange.command ≠ some .status) } := by
      by_cases hmerged : s.pl.exchange.map Exchange.command = some .status
      · simp [PlugLink.placeStatus, hmerged]
      · simp [PlugLink.placeStatus, hmerged, hlink]
    rw [← hplaced]
    exact congrArg Host.Outcome.next (if_pos hpoll)

end Sys2Proof.Machine
end

section
/-! PROOFS. The exchanges of the plug link (spec sections 7.4 to 7.7): what each reply makes of the exchange in flight, and what a valid
IDENT, STATUS or HEATER brings (R117 to R121, R123, R124, R126). -/

namespace Sys2Proof.Machine

/-! ## A reply to the exchange in flight (R117, R118) -/

/-- The exchange `e` is in flight and the reply `r` is one it asks for. -/
structure PlugLink.Answered (pl : PlugLink) (e : Exchange) (r : LinkReply) : Prop where
  exchange : pl.exchange = some e
  waiting : pl.busyWait.isRunning = false
  fits : replyFits e.command r = true

/-- The command by which the reply to a link command comes. -/
def LinkCommand.reply (c : LinkCommand) (r : LinkReply) : Instr :=
  match c with
  | .ident => .identReply r
  | .status => .statusReply r
  | .heater _ => .heaterReply r

/-- What a failed exchange does: an IDENT of a recovery attempt ends it, and every other failure is counted (R118, R124). -/
def State.exchangeFailed (c : LinkCommand) (s : State) : State :=
  if c = .ident then if s.pl.link = .lost then s.withPl s.pl.endExchange else s.identFailed else s.requestFailed c

/-- What a VALID reply does (R119 to R121, R124). -/
def State.exchangeValid (c : LinkCommand) (r : LinkReply) (s : State) : State :=
  match c with
  | .ident => State.settleLink (if s.pl.link = .lost then s.recovered (readIdentity r.data) else s.identValid (readIdentity r.data))
  | .status => State.settleLink (s.statusValid (readLinkStatus r.data))
  | .heater h => State.settleLink (s.withPl { s.pl.complete with heaterWanted := some h })

/-- A REFUSED reply ends a HEATER, and fails the others (R118, R121). -/
def State.exchangeRefused (c : LinkCommand) (s : State) : State :=
  match c with
  | .ident => s.exchangeFailed .ident
  | .status => s.exchangeFailed .status
  | .heater h => State.settleLink (State.heaterRefused h (s.withPl s.pl.complete))

/-- The state after a reply, by what it makes of the exchange. -/
def State.replied (c : LinkCommand) (r : LinkReply) (s : State) (ended : ExchangeEnd) : State :=
  match ended with
  | .repoll e => s.withPl (s.pl.repoll e)
  | .retry e => s.withPl (s.pl.retry e)
  | .failed => s.exchangeFailed c
  | .valid => s.exchangeValid c r
  | .refused => s.exchangeRefused c

section
variable {s : State} {e : Exchange} {r : LinkReply} {v : Verdict} {ended : ExchangeEnd}

theorem PlugLink.Answered.reading (h : s.pl.Answered e r) : s.pl.reading = some e := PlugLink.reading_iff.mpr ⟨h.waiting, h.exchange⟩

/-- The three reply commands do the same with the end of their exchange. -/
theorem exec_reply (h : s.pl.Answered e r) (hend : exchangeEnd e (judgeReply e.command r) = ended) :
    exec (e.command.reply r) s = .next (s.replied e.command r ended) := by
  have hreading := h.reading
  have hfits := h.fits
  obtain ⟨c, busy, bad⟩ := e
  cases c with
  | ident =>
    simp only [LinkCommand.reply, exec, execIdentReply, hreading, if_pos hfits, hend]
    cases ended <;> rfl
  | status =>
    simp only [LinkCommand.reply, exec, execStatusReply, hreading, if_pos hfits, hend]
    cases ended <;> rfl
  | heater heaters =>
    simp only [LinkCommand.reply, exec, execHeaterReply, hreading, if_pos hfits, hend]
    cases ended <;> rfl

/-! ## How an exchange goes on or fails (R118) -/

theorem exchangeEnd_of_busy (h : e.busy + 1 ≤ 8) : exchangeEnd e .busy = .repoll { e with busy := e.busy + 1 } := if_pos h

theorem exchangeEnd_of_bad (h : e.bad + 1 ≤ 2) : exchangeEnd e .bad = .retry { e with bad := e.bad + 1 } := if_pos h

theorem exchangeEnd_of_failed
    (h : (v = .busy ∧ 9 ≤ e.busy + 1) ∨ (v = .bad ∧ 3 ≤ e.bad + 1) ∨ (v = .refused ∧ ∀ h, e.command ≠ .heater h)) :
    exchangeEnd e v = .failed := by
  rcases h with ⟨rfl, hbusy⟩ | ⟨rfl, hbad⟩ | ⟨rfl, hcommand⟩
  · exact if_neg (by omega)
  · exact if_neg (by omega)
  · obtain ⟨c, busy, bad⟩ := e
    cases c with
    | ident => rfl
    | status => rfl
    | heater h => exact absurd rfl (hcommand h)

theorem State.exchangeFailed_of_recovery (hlink : s.pl.link = .lost) : s.exchangeFailed .ident = s.withPl s.pl.endExchange := by
  rw [State.exchangeFailed, if_pos rfl, if_pos hlink]

theorem State.exchangeFailed_of_ident (hlink : s.pl.link ≠ .lost) : s.exchangeFailed .ident = s.identFailed := by
  rw [State.exchangeFailed, if_pos rfl, if_neg hlink]

theorem State.exchangeFailed_of_request {c : LinkCommand} (hc : c ≠ .ident) : s.exchangeFailed c = s.requestFailed c := if_neg hc

theorem State.identFailed_of_retry (h : s.pl.failures + 1 < 3) : s.identFailed = s.withPl { s.pl.endExchange with
    failures := s.pl.failures + 1, link := .resetting, misses := 0, resetWait := .running 1000 } := if_pos h

theorem State.requestFailed_of_retry (c : LinkCommand) (h : s.pl.failures + 1 < 3) : s.requestFailed c = s.withPl
    { s.pl.endExchange.returnRequest c with failures := s.pl.failures + 1, link := .ready, pause := .running 1000 } := if_pos h

/-- At the third failure in a row every exchange but a recovery attempt ends in LOST, its request back in the set. -/
theorem State.exchangeFailed_of_third {c : LinkCommand} (hc : c ≠ .ident ∨ s.pl.link ≠ .lost) (h : 3 ≤ s.pl.failures + 1) :
    s.exchangeFailed c = State.enterLost (s.withPl { s.pl.endExchange.returnRequest c with failures := s.pl.failures + 1 }) := by
  by_cases hident : c = .ident
  · obtain rfl := hident
    rw [State.exchangeFailed_of_ident (hc.resolve_left (not_not.mpr rfl))]
    exact if_neg (by omega)
  · rw [State.exchangeFailed_of_request hident]
    exact if_neg (by omega)

end

/-- Settles O42: by how the exchange ends, and then by its command and the failures so far. -/
theorem busyBadAndFailedExchanges : Obligations.BusyBadAndFailedExchanges := by
  intro s r e hexchange hwaiting hfits reply verdict ended back failed
  have hanswered : s.pl.Answered e r := ⟨hexchange, hwaiting, hfits⟩
  have hreply : reply = e.command.reply r := by
    simp only [reply]
    cases e.command <;> rfl
  have hback : back = s.pl.endExchange.returnRequest e.command := by
    simp only [back]
    cases e.command <;> rfl
  have hfailed : failed → exec reply s = .next (s.exchangeFailed e.command) := fun h =>
    hreply ▸ exec_reply hanswered (exchangeEnd_of_failed h)
  refine ⟨fun hbusy hcount => ?_, fun hbad hcount => ?_, fun hf hident hlost => ?_, fun hf hident hlink hcount => ?_,
    fun hf hrequest hcount => ?_, fun hf hcounted hcount => ?_⟩
  · have hend : exchangeEnd e (judgeReply e.command r) = .repoll { e with busy := e.busy + 1 } :=
      (congrArg (exchangeEnd e) hbusy).trans (exchangeEnd_of_busy hcount)
    rw [hreply, exec_reply hanswered hend]
    rfl
  · have hend : exchangeEnd e (judgeReply e.command r) = .retry { e with bad := e.bad + 1 } :=
      (congrArg (exchangeEnd e) hbad).trans (exchangeEnd_of_bad hcount)
    rw [hreply, exec_reply hanswered hend]
    rfl
  · rw [hfailed hf, hident, State.exchangeFailed_of_recovery hlost]
    rfl
  · rw [hfailed hf, hident, State.exchangeFailed_of_ident hlink, State.identFailed_of_retry hcount]
    rfl
  · rw [hfailed hf, State.exchangeFailed_of_request hrequest, State.requestFailed_of_retry _ hcount, hback]
  · rw [hfailed hf, State.exchangeFailed_of_third hcounted hcount, hback]

/-! ## A valid IDENT (R119, R124) -/

section
variable {s : State} {v : VanIdentity} {st : LinkStatus}

theorem State.identValid_eq (v : VanIdentity) (s : State) : s.identValid v =
    (fun u : State => u.withPs (PowerStage.judge u.active { u.ps with linkWorking := true }))
      (State.vanIdentified v.tag v.capacity (s.withPl (s.pl.identified v))) := rfl

theorem State.recovered_of_same (h : s.pl.identity.map VanIdentity.tag = some v.tag) : s.recovered v =
    (fun u : State => u.withPs (PowerStage.judge u.active { u.ps with linkWorking := true }))
      (State.sameVan (s.withPl (s.pl.identified v))) := if_pos h

theorem State.recovered_of_different (h : s.pl.identity.map VanIdentity.tag ≠ some v.tag) : s.recovered v =
    (fun u : State => u.withPs (PowerStage.judge u.active { u.ps with linkWorking := true }))
      (State.differentVan v.tag v.capacity (s.withPl { s.pl.identified v with
        wantStatus := false, wantHeater := none, status := none, heaterWanted := none })) := if_neg h

end

/-- Settles O43: by the link's state and the tag read. -/
theorem validIdentMakesTheLinkReady : Obligations.ValidIdentMakesTheLinkReady := by
  intro s r busy bad hexchange hwaiting hfits hvalid field v known working
  have hexec : exec (.identReply r) s = .next (State.settleLink (if s.pl.link = .lost then s.recovered v else s.identValid v)) :=
    exec_reply (e := ⟨.ident, busy, bad⟩) ⟨hexchange, hwaiting, hfits⟩ (congrArg (exchangeEnd _) hvalid)
  refine ⟨fun hlink => ?_, fun hlost hsame => ?_, fun hlost hother => ?_⟩
  · rw [hexec, if_neg hlink, State.identValid_eq]
    rfl
  · rw [hexec, if_pos hlost, State.recovered_of_same hsame]
    rfl
  · rw [hexec, if_pos hlost, State.recovered_of_different hother]
    rfl

/-! ## A valid STATUS (R120) -/

section
variable {s : State} {st : LinkStatus} {soc : Nat} {temperature : Int}

theorem State.takeStatus_of_noVan (h : s.pw.van = none) : s.takeStatus soc temperature = s := if_neg (by simp [h])

theorem State.takeStatus_of_awaiting (hvan : s.pw.van.isSome = true) (hstate : s.pw.state = .awaiting) :
    s.takeStatus soc temperature =
      if s.pw.held.isSome = true ∧ s.dc.source ≠ .unset then State.buildOrAwait (s.withPw { s.pw with status := some ⟨soc, temperature⟩ })
      else s.withPw { s.pw with status := some ⟨soc, temperature⟩ } := by
  have hbuilds : (s.pw.held.isSome && s.dc.isSet) = true ↔ s.pw.held.isSome = true ∧ s.dc.source ≠ .unset := by
    rw [Bool.and_eq_true, DepotClock.isSet_eq_true_iff]
  simp only [State.takeStatus, if_pos hvan, State.withPw_pw, State.withPw_dc, if_pos hstate, hbuilds]

theorem State.takeStatus_of_later (hvan : s.pw.van.isSome = true) (hstate : s.pw.state ≠ .awaiting) :
    s.takeStatus soc temperature =
      if s.warmEnds temperature then State.endStep false (s.withPw { s.pw with status := some ⟨soc, temperature⟩ })
      else s.withPw { s.pw with status := some ⟨soc, temperature⟩ } := by
  simp only [State.takeStatus, if_pos hvan, State.withPw_pw, if_neg hstate]
  rfl

theorem State.warmEnds_iff {p : WalkerPos} {step : ProgStep} (h : s.pw.current = some (p, step)) :
    s.warmEnds temperature = true ↔ step.kind = .warmPack ∧ s.cfg.warmThreshold + 2 ≤ temperature := by
  rw [State.warmEnds, h]
  exact decide_eq_true_iff

theorem State.warmEnds_of_noStep (h : s.pw.current = none) : s.warmEnds temperature = false := by rw [State.warmEnds, h]

/-- The heaters asked for again where the van does not run them as wanted (R120). -/
def State.heatersChecked (st : LinkStatus) (s : State) : State := s.withPl (s.pl.checkHeaters st)

theorem State.heatersChecked_of_none (h : s.pl.heaterWanted = none) : s.heatersChecked st = s := by
  rw [State.heatersChecked, PlugLink.checkHeaters, h, State.withPl_self]

theorem State.heatersChecked_of_wanted {h : Heaters} (hwanted : s.pl.heaterWanted = some h) : s.heatersChecked st =
    if (st.packRunning = h.pack ∧ st.cabinRunning = h.cabin) ∨ s.pl.wantHeater ≠ none then s else s.placeHeater h := by
  have hdiffers : (st.packRunning ≠ h.pack ∨ st.cabinRunning ≠ h.cabin) ∧ s.pl.wantHeater = none ↔
      ¬ ((st.packRunning = h.pack ∧ st.cabinRunning = h.cabin) ∨ s.pl.wantHeater ≠ none) := by tauto
  rw [State.heatersChecked, PlugLink.checkHeaters, hwanted]
  simp only [hdiffers, ite_not]
  split <;> rfl

/-- The status kept and the accept power handed on, before the walker hears of it. -/
def State.statusTaken (st : LinkStatus) (s : State) : State :=
  State.handAccept (effectiveAccept s.pl.identity st) (s.withPl { s.pl.complete with status := some st })

theorem State.statusValid_eq (st : LinkStatus) (s : State) :
    s.statusValid st = ((s.statusTaken st).takeStatus st.soc st.temperature).heatersChecked st := rfl

end

/-- Settles O44: by the walker's state, with the heaters checked last. -/
theorem validStatusReachesItsBlocks : Obligations.ValidStatusReachesItsBlocks := by
  intro s r busy bad hexchange hwaiting hfits hvalid field flag temperature st accept taken heard checked
  have htaken : s.statusTaken st = taken := by
    rw [State.statusTaken, State.handAccept, PowerStage.takeAcceptLimit_eq]
    rfl
  have hchecked : ∀ u : State, u.heatersChecked st = checked u := by
    intro u
    cases hwanted : u.pl.heaterWanted with
    | none => simp only [checked, hwanted, State.heatersChecked_of_none hwanted]
    | some h =>
      simp only [checked, hwanted, State.heatersChecked_of_wanted hwanted]
      rfl
  have hexec : ∀ u, taken.takeStatus st.soc st.temperature = u → exec (.statusReply r) s = .next (State.settleLink (checked u)) := by
    rintro u rfl
    have hstatus : exec (.statusReply r) s = .next (State.settleLink (s.statusValid st)) :=
      exec_reply (e := ⟨.status, busy, bad⟩) ⟨hexchange, hwaiting, hfits⟩ (congrArg (exchangeEnd _) hvalid)
    rw [hstatus, State.statusValid_eq, htaken, hchecked]
  refine ⟨fun hvan => hexec _ (State.takeStatus_of_noVan hvan), fun hvan hstate => hexec _ (State.takeStatus_of_awaiting hvan hstate),
    fun hvan hstate => hexec _ ((State.takeStatus_of_later (s := taken) hvan hstate).trans ?_)⟩
  cases hcurrent : s.pw.current with
  | none => exact if_neg (ne_true_of_eq_false (State.warmEnds_of_noStep (s := taken) hcurrent))
  | some at_ =>
    obtain ⟨p, step⟩ := at_
    have hends : taken.warmEnds st.temperature = true ↔ step.kind = .warmPack ∧ s.cfg.warmThreshold + 2 ≤ temperature :=
      State.warmEnds_iff (s := taken) hcurrent
    simp only [hends]
    rfl

/-! ## A completed HEATER (R121, R104) -/

section
variable {s : State} {h : Heaters} {p : WalkerPos} {st : ProgStep}

theorem ProgStep.refusedBy_iff (h : Heaters) (st : ProgStep) :
    st.refusedBy h = true ↔ (st.kind = .warmPack ∧ h.pack = true) ∨ (st.kind = .cabin ∧ h.cabin = true) := by
  unfold ProgStep.refusedBy
  cases st.kind <;> simp

theorem State.heaterRefused_of_asked (hcurrent : s.pw.current = some (p, st)) (hasked : st.refusedBy h = true) :
    s.heaterRefused h = State.endStep true (s.queueReport .stepEnd s.pw.tag (st.kind.code + 256)) := by
  rw [State.heaterRefused, hcurrent]
  exact if_pos hasked

theorem State.heaterRefused_of_other (hother : ∀ p st, s.pw.current = some (p, st) → ¬ st.refusedBy h = true) : s.heaterRefused h = s := by
  unfold State.heaterRefused
  split
  · next p st hcurrent => exact if_neg (hother p st hcurrent)
  · rfl

end

/-- Settles O45: by the verdict, and a refusal by whether the current step's heater was asked on. -/
theorem completedHeaterExchange : Obligations.CompletedHeaterExchange := by
  intro s r h busy bad hexchange hwaiting hfits done
  have hanswered : s.pl.Answered ⟨.heater h, busy, bad⟩ r := ⟨hexchange, hwaiting, hfits⟩
  refine ⟨fun hvalid => exec_reply hanswered (congrArg (exchangeEnd _) hvalid), fun hrefused => ?_⟩
  have hexec : ∀ u, State.heaterRefused h (s.withPl done) = u → exec (.heaterReply r) s = .next u.settleLink := by
    rintro u rfl
    exact exec_reply hanswered (congrArg (exchangeEnd _) hrefused)
  refine ⟨fun p st hwalking hat hasked => hexec _ ?_, fun hother => hexec _ ?_⟩
  · exact State.heaterRefused_of_asked (s := s.withPl done) (Walker.current_of_walking hwalking hat) ((st.refusedBy_iff h).mpr hasked)
  · exact State.heaterRefused_of_other fun p st hcurrent => mt (st.refusedBy_iff h).mp (hother p st hcurrent)

end Sys2Proof.Machine
end

section
/-! PROOFS. The contactor and the meter (spec sections 8.4, 8.5), and what a plug open does to every block (sections 6.4, 7.2): R92, R112, R135 to
R139, R142, R143. -/

namespace Sys2Proof.Machine

/-! ## The want and its judgement (R135 to R138) -/

section
variable {ps : PowerStage} {active : Bool}

theorem PowerStage.viewWants_iff : ps.viewWants = true ↔ ps.viewState = .running ∨ ps.viewState = .waiting
    ∨ (ps.viewState = .held ∧ ps.viewLinkLost = false ∧ ps.viewMeterLost = false) := by
  unfold PowerStage.viewWants
  cases ps.viewState <;> simp

theorem PowerStage.judge_of_isOpen (h : ps.contactor = .isOpen) :
    ps.judge active = if ps.wanted active = true ∧ ps.retryWait.isRunning = false then ps.enterClosing else ps := by
  rw [PowerStage.judge, h]

theorem PowerStage.judge_of_closing (h : ps.contactor = .closing) :
    ps.judge active = if ps.wanted active then ps else ps.beginSensePhase active := by rw [PowerStage.judge, h]

theorem PowerStage.judge_of_isClosed (h : ps.contactor = .isClosed) :
    ps.judge active = if ps.wanted active then ps else ps.beginDrawPhase active := by rw [PowerStage.judge, h]

theorem PowerStage.judge_of_opening {phase : OpeningPhase} (h : ps.contactor = .opening phase) : ps.judge active = ps := by
  rw [PowerStage.judge, h]

theorem PowerStage.judge_of_closeFault (h : ps.contactor = .closeFault) : ps.judge active = ps := by rw [PowerStage.judge, h]

theorem PowerStage.judge_of_wanted (hwanted : ps.wanted active = true) (h : ps.contactor ≠ .isOpen) : ps.judge active = ps := by
  unfold PowerStage.judge
  split
  · next hopen => exact absurd hopen h
  · exact if_pos hwanted
  · exact if_pos hwanted
  · rfl
  · rfl
  · rfl

/-- A contactor neither closing nor closed stays as it is while unwanted. -/
theorem PowerStage.judge_of_unwanted (hunwanted : ps.wanted active = false) (hclosing : ps.contactor ≠ .closing)
    (hclosed : ps.contactor ≠ .isClosed) : ps.judge active = ps := by
  unfold PowerStage.judge
  split
  · exact if_neg (by simp [hunwanted])
  · next h => exact absurd h hclosing
  · next h => exact absurd h hclosed
  · rfl
  · rfl
  · rfl

/-- The sense phase lasts while the sense reads closed, and otherwise OPEN is judged at once (R138). -/
theorem PowerStage.beginSensePhase_eq : ps.beginSensePhase active =
    if ps.senseClosed = true then
      { ps with contactor := .opening .sense, drive := false, drawWait := .stopped, senseTimer := .running 200 }
    else
      PowerStage.judge active { ps with contactor := .isOpen, drive := false, drawWait := .stopped, senseTimer := .stopped } := rfl

theorem PowerStage.beginSensePhase_of_unwanted (h : ps.wanted active = false) : ps.beginSensePhase active =
    if ps.senseClosed = true then
      { ps with contactor := .opening .sense, drive := false, drawWait := .stopped, senseTimer := .running 200 }
    else { ps with contactor := .isOpen, drive := false, drawWait := .stopped, senseTimer := .stopped } := by
  rw [PowerStage.beginSensePhase_eq, PowerStage.judge_of_unwanted (by exact h) (by simp) (by simp)]

theorem PowerStage.beginDrawPhase_of_low (h : ps.meterLost = false ∧ ps.draw < 5) :
    ps.beginDrawPhase active = PowerStage.beginSensePhase active { ps with setpoint := 0, contactor := .opening .draw } := if_pos h

theorem PowerStage.beginDrawPhase_of_drawing (h : ¬ (ps.meterLost = false ∧ ps.draw < 5)) :
    ps.beginDrawPhase active = { ps with setpoint := 0, contactor := .opening .draw, drawWait := .running 2000 } := if_neg h

end

/-- Settles O47. -/
theorem contactorWantedClosed : Obligations.ContactorWantedClosed := by
  intro s
  simp only [PowerStage.wanted, State.active, Bool.and_eq_true, Bool.not_eq_true', decide_eq_true_eq, PowerStage.viewWants_iff, and_assoc]

/-- Settles O48: by the want, and then by the contactor's state. -/
theorem contactorFollowsTheWant : Obligations.ContactorFollowsTheWant := by
  intro active ps sensing opened released
  refine ⟨fun hwanted => ⟨fun hopen hretry => ?_, fun hopen hretry hsense => ?_, fun hopen hretry hsense => ?_,
    PowerStage.judge_of_wanted hwanted⟩, fun hunwanted => ⟨fun hclosing => ?_, fun hclosed hmeter hdraw => ?_, fun hclosed hdraw => ?_,
    PowerStage.judge_of_unwanted hunwanted⟩⟩
  · rw [PowerStage.judge_of_isOpen hopen, if_neg (by simp [hretry])]
  · rw [PowerStage.judge_of_isOpen hopen, if_pos ⟨hwanted, hretry⟩, PowerStage.enterClosing, if_neg (ne_true_of_eq_false hsense)]
  · rw [PowerStage.judge_of_isOpen hopen, if_pos ⟨hwanted, hretry⟩, PowerStage.enterClosing, if_pos hsense]
  · rw [PowerStage.judge_of_closing hclosing, if_neg (ne_true_of_eq_false hunwanted), PowerStage.beginSensePhase_of_unwanted hunwanted]
  · rw [PowerStage.judge_of_isClosed hclosed, if_neg (ne_true_of_eq_false hunwanted), PowerStage.beginDrawPhase_of_low ⟨hmeter, hdraw⟩,
      PowerStage.beginSensePhase_of_unwanted (by exact hunwanted)]
  · have hdrawing : ¬ (ps.meterLost = false ∧ ps.draw < 5) := by
      rintro ⟨hmeter, hlow⟩
      rcases hdraw with hlost | hhigh
      · simp [hmeter] at hlost
      · omega
    rw [PowerStage.judge_of_isClosed hclosed, if_neg (ne_true_of_eq_false hunwanted), PowerStage.beginDrawPhase_of_drawing hdrawing]

/-! ## The sense, the timers and the latches (R136 to R139) -/

/-- Settles O49: by the contactor's state and which timer ends. -/
theorem contactorSenseTimersAndLatches : Obligations.ContactorSenseTimersAndLatches := by
  refine ⟨fun s => ⟨fun hclosing => congrArg Host.Outcome.next (if_pos hclosing), fun hnot => congrArg Host.Outcome.next (if_neg hnot),
    fun hclosed => ?_, fun hsensing => ?_, fun hclosed hsensing => ?_⟩, fun s => ?_⟩
  · simp only [exec, execSenseReadsOpen, hclosed]
  · simp only [exec, execSenseReadsOpen, hsensing]
    rfl
  · simp only [exec, execSenseReadsOpen]
  · intro off fault
    refine ⟨fun hfirst => if_pos hfirst, fun hsecond => if_neg hsecond, fun htimer hclosing => ?_, fun htimer hsensing => ?_,
      fun hretry => congrArg Host.Outcome.next (if_pos hretry), fun hwait hdraw => ?_⟩
    · exact congrArg Host.Outcome.next (if_pos (by simp [htimer, hclosing]))
    · exact congrArg Host.Outcome.next (if_pos (by simp [htimer, hsensing]))
    · have hends : exec .drawWaitExpiry s = .next (s.withPs (s.ps.beginSensePhase s.active)) :=
        congrArg Host.Outcome.next (if_pos (by simp [hwait, hdraw]))
      rw [hends, PowerStage.beginSensePhase_eq]
      exact ⟨fun hclosed => by rw [if_pos hclosed], fun hopen => by rw [if_neg (ne_true_of_eq_false hopen)]⟩

/-! ## The meter (R142, R143) -/

section
variable {s : State} {power : Nat}

theorem State.endDrawPhase_of_other (h : s.ps.contactor ≠ .opening .draw ∨ 5 ≤ power) : s.endDrawPhase power = s :=
  if_neg fun ⟨hdraw, hlow⟩ => h.elim (fun hnot => hnot hdraw) (fun hhigh => absurd hlow (by omega))

theorem State.endDrawPhase_of_low (hdraw : s.ps.contactor = .opening .draw) (hlow : power < 5) :
    s.endDrawPhase power = s.withPs (s.ps.beginSensePhase s.active) := if_pos ⟨hdraw, hlow⟩

end

/-- Settles O50: an update ends meter lost first, and then the draw phase. -/
theorem meterUpdatesAndMeterLost : Obligations.MeterUpdatesAndMeterLost := by
  intro s hconfig
  have hactive : s.active = true := by simp [State.active, hconfig]
  refine ⟨fun power => ?_, fun hmeter => ?_⟩
  · intro read good
    have hread : s.withPs (s.ps.takeDraw power) = read := by rw [PowerStage.takeDraw, ← clamp_eq_min]
    have hexec : ∀ u, good.endDrawPhase power = u → exec (.drawUpdate power) s = .next u.settleLink := by
      rintro u rfl
      simp only [exec, execDrawUpdate, if_pos hactive, hread]
      rfl
    have hgood : good.active = true := by
      have hsl : good.sl = s.sl := by
        simp only [good]
        split <;> simp [read]
      rw [State.active_of_sl hsl, hactive]
    refine ⟨fun hother => hexec _ (State.endDrawPhase_of_other hother), fun hdraw hlow => ?_⟩
    have hends := hexec _ (State.endDrawPhase_of_low hdraw hlow)
    rw [PowerStage.beginSensePhase_eq, hgood] at hends
    exact ⟨fun hclosed => by rw [hends, if_pos hclosed], fun hopen => by rw [hends, if_neg (ne_true_of_eq_false hopen)]⟩
  · exact congrArg Host.Outcome.next (if_pos (by simp [hactive, hmeter]))

end Sys2Proof.Machine
end

section
/-! PROOFS. A plug open at every block (spec sections 6.4, 7.2, 8.4): R92, R112, R135 to R139. -/

namespace Sys2Proof.Machine

/-! ## What a queued report reads of the link and the power stage: the latches alone (R156) -/

section
variable {s : State} {ps : PowerStage}

theorem ownFrameBytes_withPl_withPs (pl : PlugLink) (hweld : ps.weldLatch = s.ps.weldLatch) (hclose : ps.closeLatch = s.ps.closeLatch)
    (f : OwnFrame) : ownFrameBytes ((s.withPl pl).withPs ps) f = ownFrameBytes s f := by
  have hflags : stateFlagBits ((s.withPl pl).withPs ps) = stateFlagBits s := by
    simp only [stateFlagBits, State.withPs_ps, hweld, hclose]
    rfl
  cases f with
  | claim c => rfl
  | report r => rfl
  | diag =>
    simp only [ownFrameBytes, diagPayload, hflags]
    rfl

theorem State.headOutput_withPl_withPs (pl : PlugLink) (hweld : ps.weldLatch = s.ps.weldLatch) (hclose : ps.closeLatch = s.ps.closeLatch) :
    ((s.withPl pl).withPs ps).headOutput = s.headOutput := by
  simp only [State.headOutput, ownFrameBytes_withPl_withPs pl hweld hclose]
  rfl

theorem State.trySend_withPl_withPs (pl : PlugLink) (hweld : ps.weldLatch = s.ps.weldLatch) (hclose : ps.closeLatch = s.ps.closeLatch) :
    ((s.withPl pl).withPs ps).trySend = (s.trySend.withPl pl).withPs ps := by
  by_cases hsend : s.maySend = true
  · rw [State.trySend, State.trySend, if_pos hsend, if_pos (by exact hsend), State.beginAttempt, State.headOutput_withPl_withPs pl hweld hclose]
    rfl
  · rw [State.trySend, State.trySend, if_neg hsend, if_neg (by exact hsend)]

theorem State.queueReport_withPl_withPs (pl : PlugLink) (hweld : ps.weldLatch = s.ps.weldLatch) (hclose : ps.closeLatch = s.ps.closeLatch)
    (kind : ReportKind) (tag : VanTag) (detail : Nat) :
    ((s.withPl pl).withPs ps).queueReport kind tag detail = ((s.queueReport kind tag detail).withPl pl).withPs ps := by
  by_cases hactive : s.active = true
  · rw [State.queueReport, State.queueReport, if_pos hactive, if_pos (by exact hactive)]
    exact State.trySend_withPl_withPs (s := s.withLi { s.li with queue := queueFrame _ s.li.queue }) pl hweld hclose
  · rw [State.queueReport, State.queueReport, if_neg hactive, if_neg (by exact hactive)]

/-! ## The walker at a removal (R92) -/

/-- The walker with everything of the van cleared. -/
def Walker.departed (pw : Walker) : Walker := { pw.clearPlans with state := .empty, van := none, status := none }

theorem State.walkerPlugRemoved_eq (s : State) : s.walkerPlugRemoved = State.tellPower
    ((if s.pw.state = .empty then s else s.queueReport .departed s.pw.tag s.pw.delivered).withPw s.pw.departed) := by
  unfold State.walkerPlugRemoved
  split <;> simp [Walker.departed]

theorem State.walkerPlugRemoved_pw (s : State) : s.walkerPlugRemoved.pw = s.pw.departed := by
  rw [State.walkerPlugRemoved_eq, State.tellPower_pw, State.withPw_pw]

theorem State.walkerPlugRemoved_ps (s : State) : s.walkerPlugRemoved.ps = (s.ps.takeView s.pw.departed).judge s.active := by
  rw [State.walkerPlugRemoved_eq]
  split
  · rfl
  · have hactive : ((s.queueReport .departed s.pw.tag s.pw.delivered).withPw s.pw.departed).active = s.active :=
      State.active_of_sl (by simp)
    simp [State.tellPower, hactive]

theorem State.walkerPlugRemoved_li (s : State) : s.walkerPlugRemoved.li =
    if s.pw.state = .empty then s.li else (s.queueReport .departed s.pw.tag s.pw.delivered).li := by
  rw [State.walkerPlugRemoved_eq, State.tellPower_li, State.withPw_li]
  exact apply_ite State.li _ _ _

/-! ## Power Stage Control at a removal (R135 to R139) -/

/-- What a plug open leaves of Power Stage Control as it was, `a`. -/
structure PowerStage.Unplugged (a b : PowerStage) : Prop where
  setpoint : b.setpoint = 0
  acceptLimit : b.acceptLimit = 0
  plugDetected : b.plugDetected = false
  linkWorking : b.linkWorking = false
  viewState : b.viewState = .empty
  closeLatch : b.closeLatch = false
  closeMisses : b.closeMisses = 0
  retryWait : b.retryWait = .stopped
  weldLatch : b.weldLatch = a.weldLatch
  target : b.target = a.target
  shedHold : b.shedHold = a.shedHold
  draw : b.draw = a.draw
  notClosing : b.contactor ≠ .closing
  notClosed : b.contactor ≠ .isClosed
  closeFault : a.contactor = .closeFault → a.weldLatch = false → b.contactor = .isOpen
  opening : ∀ phase, a.contactor = .opening phase → b.contactor = .opening phase

/-- The power stage after the walker's and the link's part of a removal: each judged in turn, and then the close latch cleared. -/
def PowerStage.removed (active : Bool) (pw : Walker) (ps : PowerStage) : PowerStage :=
  PowerStage.clearCloseFault (PowerStage.judge active { (ps.takeView pw).judge active with plugDetected := false, linkWorking := false })

theorem PowerStage.clearCloseFault_not_engaged {ps : PowerStage} (h : ps.contactor.engaged = false) :
    ps.clearCloseFault.contactor.engaged = false := by
  unfold PowerStage.clearCloseFault
  dsimp only
  split
  · rfl
  · exact h

/-- A removal with the accept power 0 leaves nothing of the van, and neither closing nor closed (R131, R135, R139). -/
theorem PowerStage.removed_unplugged {a ps : PowerStage} {pw : Walker} (active : Bool) (pMin : Nat) (hps : ps = a.takeAcceptLimit pMin 0)
    (hpw : pw.state = .empty) : PowerStage.Unplugged a (ps.removed active pw) := by
  have hzero : ps.setpoint = 0 := by rw [hps, PowerStage.takeAcceptLimit_zero_setpoint]
  have hidle : (ps.removed active pw).contactor.engaged = false :=
    PowerStage.clearCloseFault_not_engaged (PowerStage.judge_not_engaged (PowerStage.wanted_of_linkDown rfl))
  obtain ⟨hclosing, hclosed⟩ := (Contactor.engaged_eq_false_iff _).mp hidle
  have hfirst : ((ps.takeView pw).judge active).setpoint = 0 := PowerStage.judge_setpoint_of_zero hzero
  refine
    { setpoint := PowerStage.judge_setpoint_of_zero hfirst
      notClosing := hclosing
      notClosed := hclosed
      closeFault := fun hfault hweld => ?closeFault
      opening := fun phase hphase => ?opening
      acceptLimit := ?_, plugDetected := ?_, linkWorking := ?_, viewState := ?_, closeLatch := ?_, closeMisses := ?_, retryWait := ?_
      weldLatch := ?_, target := ?_, shedHold := ?_, draw := ?_ }
  case closeFault =>
    have hview : (ps.takeView pw).judge active = ps.takeView pw := PowerStage.judge_of_closeFault (by rw [hps]; exact hfault)
    rw [PowerStage.removed, hview, PowerStage.judge_of_closeFault (by rw [hps]; exact hfault)]
    exact if_pos ⟨by rw [hps]; exact hfault, by rw [hps]; exact hweld⟩
  case opening =>
    have hview : (ps.takeView pw).judge active = ps.takeView pw := PowerStage.judge_of_opening (by rw [hps]; exact hphase)
    rw [PowerStage.removed, hview, PowerStage.judge_of_opening (by rw [hps]; exact hphase), hps]
    exact (if_neg (by simp [PowerStage.takeView, PowerStage.takeAcceptLimit, hphase])).trans hphase
  all_goals simp [PowerStage.removed, PowerStage.clearCloseFault, PowerStage.takeView, PowerStage.takeAcceptLimit, hps, hpw]

/-- Told again of an EMPTY walker, it stays as it is: the contactor is not wanted. -/
theorem PowerStage.Unplugged.told {a b : PowerStage} {pw : Walker} {active : Bool} (h : PowerStage.Unplugged a b) (hpw : pw.state = .empty) :
    PowerStage.Unplugged a ((b.takeView pw).judge active) := by
  have hstays : (b.takeView pw).judge active = b.takeView pw :=
    PowerStage.judge_of_unwanted (PowerStage.wanted_of_linkDown h.linkWorking) h.notClosing h.notClosed
  rw [hstays]
  exact { h with viewState := hpw }

/-! ## The whole removal -/

/-- Power Stage Control's part of a removal, with the walker EMPTY already. -/
theorem State.powerPlugRemoved_of_weld (h : s.ps.weldLatch = true) :
    s.powerPlugRemoved = (s.linkView false false).withPs (s.linkView false false).ps.clearCloseFault :=
  if_pos (by simpa [State.linkView, State.judgeContactor, PowerStage.clearCloseFault] using h)

theorem State.powerPlugRemoved_of_noWeld (h : s.ps.weldLatch = false) (hempty : s.pw.state = .empty) :
    s.powerPlugRemoved = State.tellPower (((s.linkView false false).withPs (s.linkView false false).ps.clearCloseFault).withPw
      { s.pw with holds := { s.pw.holds with contactorFault := false } }) := by
  have hclear : ¬ ((s.linkView false false).withPs (s.linkView false false).ps.clearCloseFault).ps.weldLatch = true := by
    simpa [State.linkView, State.judgeContactor, PowerStage.clearCloseFault] using h
  refine (if_neg hclear).trans ((State.setHolds_of_still ?_ _).trans ?_)
  · simp [hempty, ProgState.walking]
  · rw [State.withPs_pw, State.linkView_pw]

/-- The link unplugged with the accept power 0, and the walker's part of a removal. -/
def State.plugRemoved (s : State) : State := State.walkerPlugRemoved (State.handAccept 0 (s.withPl s.pl.unplug))

theorem exec_plugOpen (h : s.pl.settlesTo false = true) : exec .plugOpen s = .next s.plugRemoved.powerPlugRemoved :=
  congrArg Host.Outcome.next (if_pos h)

theorem State.plugRemoved_pw (s : State) : s.plugRemoved.pw = s.pw.departed := State.walkerPlugRemoved_pw _

theorem State.plugRemoved_empty (s : State) : s.plugRemoved.pw.state = .empty := by
  rw [State.plugRemoved_pw]
  rfl

theorem State.plugRemoved_ps (s : State) :
    s.plugRemoved.ps = ((s.ps.takeAcceptLimit s.cfg.pMin 0).takeView s.pw.departed).judge s.active := State.walkerPlugRemoved_ps _

theorem State.plugRemoved_weldLatch (s : State) : s.plugRemoved.ps.weldLatch = s.ps.weldLatch := by
  rw [State.plugRemoved_ps, PowerStage.judge_weldLatch]
  rfl

theorem State.plugRemoved_li (s : State) : s.plugRemoved.li =
    if s.pw.state = .empty then s.li else (s.queueReport .departed s.pw.tag s.pw.delivered).li := by
  have hreport := congrArg State.li (State.queueReport_withPl_withPs (s := s) (ps := s.ps.takeAcceptLimit s.cfg.pMin 0)
    { s.pl.unplug with accept := 0 } rfl rfl .departed s.pw.tag s.pw.delivered)
  rw [State.plugRemoved, State.walkerPlugRemoved_li]
  exact congrArg (ite _ s.li) hreport

theorem State.plugRemoved_cleared (s : State) :
    PowerStage.Unplugged s.ps (s.plugRemoved.linkView false false).ps.clearCloseFault := by
  have hactive : s.plugRemoved.active = s.active := State.active_of_sl (by simp [State.plugRemoved, State.handAccept])
  have hview : (s.plugRemoved.linkView false false).ps.clearCloseFault
      = (s.ps.takeAcceptLimit s.cfg.pMin 0).removed s.active s.pw.departed := by
    rw [PowerStage.removed, ← State.plugRemoved_ps, ← hactive]
    rfl
  rw [hview]
  exact PowerStage.removed_unplugged _ s.cfg.pMin rfl rfl

theorem State.plugOpened_ps (s : State) : PowerStage.Unplugged s.ps s.plugRemoved.powerPlugRemoved.ps := by
  have hweld := s.plugRemoved_weldLatch
  cases h : s.ps.weldLatch with
  | true =>
    rw [State.powerPlugRemoved_of_weld (hweld.trans h)]
    exact s.plugRemoved_cleared
  | false =>
    rw [State.powerPlugRemoved_of_noWeld (hweld.trans h) s.plugRemoved_empty]
    exact s.plugRemoved_cleared.told s.plugRemoved_empty

/-- The contactor fault cause stays for a weld alone (R139). -/
theorem State.plugOpened_pw (s : State) : s.plugRemoved.powerPlugRemoved.pw = { s.pw.departed with
    holds := { s.pw.departed.holds with contactorFault := s.pw.holds.contactorFault && s.ps.weldLatch } } := by
  have hweld := s.plugRemoved_weldLatch
  cases h : s.ps.weldLatch with
  | true =>
    rw [State.powerPlugRemoved_of_weld (hweld.trans h), State.withPs_pw, State.linkView_pw, State.plugRemoved_pw, Bool.and_true]
    rfl
  | false =>
    rw [State.powerPlugRemoved_of_noWeld (hweld.trans h) s.plugRemoved_empty, State.tellPower_pw, State.withPw_pw, State.plugRemoved_pw,
      Bool.and_false]

end

/-- Settles O38: the link, the walker and the power stage in turn. -/
theorem plugOpenClearsTheVan : Obligations.PlugOpenClearsTheVan := by
  intro s hsettle hcontact hplug
  have hps := s.plugOpened_ps
  refine ⟨s.plugRemoved.powerPlugRemoved, exec_plugOpen (PlugLink.settlesTo_iff.mpr ⟨hsettle, hcontact, hplug⟩), ?link, s.plugOpened_pw,
    hps.setpoint, hps.acceptLimit, hps.plugDetected, hps.linkWorking, hps.viewState, hps.closeLatch, hps.closeMisses, hps.retryWait,
    hps.weldLatch, hps.target, hps.shedHold, hps.draw, hps.notClosing, hps.notClosed, hps.closeFault, hps.opening, ?line, ?_, ?_, ?_, ?_, ?_⟩
  case link =>
    rw [State.plugRemoved, State.plugOpened_pl, ← hcontact]
    rfl
  case line => rw [State.powerPlugRemoved_li, State.plugRemoved_li]
  all_goals simp [State.plugRemoved, State.handAccept]

end Sys2Proof.Machine
end
